-- ==== Sys2Proof/Word.lean ====
section
/-! DEFINITION. The byte of the bay loop and the index types of the part's fixed sets (spec 00, 10). -/

namespace Sys2Proof

/-- A data byte of the loop (R148). -/
abbrev Byte := BitVec 8

/-- A bay number 0 to 23 within the part. -/
abbrev BayIx := Fin 24

/-- A cooling zone 0 to 3. -/
abbrev ZoneIx := Fin 4

/-- A fan 0 to 7 (one PWM output and one tach input). -/
abbrev FanIx := Fin 8

/-- An ADC channel: 0 to 7 temperature, 8 supply current (R86). -/
abbrev ChannelIx := Fin 9

/-- A drive class 0 to 7. -/
abbrev ClassIx := Fin 8

/-- All bay numbers in ascending order. -/
def allBays : List BayIx := List.finRange 24

/-- All zones in ascending order. -/
def allZones : List ZoneIx := List.finRange 4

/-- All fans in ascending order. -/
def allFans : List FanIx := List.finRange 8

/-- All ADC channels in ascending order. -/
def allChannels : List ChannelIx := List.finRange 9

end Sys2Proof
end

