-- ==== Sys2Proof/Syntax.lean ====
section
/-! DEFINITION. The commands of the part: one constructor per row of spec/opcode_table.json. -/

namespace Sys2Proof

/-- What one scan of the bay I/O chain shows of a bay (00, pin summary; R8, R10, R18, R134). -/
structure BayInputs where
  presence : Bool
  carrier : BitVec 4
  powerGood : Bool
  switchFault : Bool
  activity : Bool
deriving DecidableEq, Repr

/-- The levels of the three strap groups (R186). -/
structure StrapPins where
  bayCount : BitVec 2
  ceiling : BitVec 2
  policy : Bool
deriving DecidableEq, Repr

/-- The input pins of the part: the bay I/O chain, the nine analog inputs (each as the 12-bit code its
conversion gives) and the straps. -/
structure Pins where
  bays : Vector BayInputs 24
  analog : Vector (BitVec 12) 9
  straps : StrapPins
deriving DecidableEq, Repr

/-- Whether a tick's resolution of the lights is taken before or after the other events of that tick (R138
allows either). -/
inductive LightsOrder where
  | beforeEvents
  | afterEvents
deriving DecidableEq, Repr

/-- The two triggers that hold the part in reset (R187). -/
inductive ResetTrigger where
  | powerOn
  | pin
deriving DecidableEq, Repr

/-- A command: an event of the part, or a management message handed to it. Event rows name the bay or fan
line they come from; message rows carry the request cell's destination and tag bytes and the argument bytes
the kind uses (10, section 10.3). -/
inductive Instr where
  /-- TIMEBASE_TICK (R1): the pin levels the tick's scan finds, and where its resolution falls. -/
  | timebaseTick (pins : Pins) (lights : LightsOrder)
  | presenceActive (bay : Nat)
  | presenceLoss (bay : Nat)
  | powerGoodSeen (bay : Nat)
  | powerGoodLost (bay : Nat)
  | switchFault (bay : Nat)
  | driveActivityEdge (bay : Nat)
  | tachPulse (fan : Nat)
  | debounceExpiry (bay : Nat)
  | drainExpiry (bay : Nat)
  | surgeDeadline (bay : Nat)
  | powerGoodDeadline (bay : Nat)
  | resetHoldExpiry (bay : Nat)
  | staggerBoundary
  | coolingUpdate
  | conversionEnd
  | temperatureStale (bay : Nat)
  | loopTimerExpiry
  | activityStretchExpiry (bay : Nat)
  /-- LOOP_SYMBOL (R148, R150): the nine bits, the kind bit first (bit 8). -/
  | loopSymbol (bits : BitVec 9)
  | goodFrameEnd
  | badCheckFrameEnd
  | loopBreak
  | loopClockReturn
  | identify (dst tag : Byte)
  | bayRead (dst tag bay : Byte)
  | bayPowerOn (dst tag bay : Byte)
  | bayPowerExpedite (dst tag bay : Byte)
  | bayPowerOff (dst tag bay : Byte)
  | bayPowerRelease (dst tag bay : Byte)
  | bayPowerCycle (dst tag bay : Byte)
  | bayPowerClear (dst tag bay : Byte)
  | bayReset (dst tag bay : Byte)
  | bayClass (dst tag bay cls : Byte)
  | attentionClear (dst tag start stop kinds : Byte)
  | attentionMask (dst tag start stop setMask clearMask : Byte)
  /-- INDICATOR HOLD with a code (any code byte but 255, which is the release). -/
  | indicatorHold (dst tag start stop code : Byte)
  | indicatorHoldRelease (dst tag start stop : Byte)
  | blinkSync (dst tag : Byte)
  | driveTemperature (dst tag first : Byte) (v0 v1 v2 : BitVec 16)
  | tableWindow (dst tag table start stop : Byte)
  /-- TABLE PUT: the index and the entry bytes that follow it (at most 11 in a cell). -/
  | tablePut (dst tag index : Byte) (entry : List Byte)
  | tableGet (dst tag index : Byte)
  | curveActivate (dst tag zone : Byte)
  | powerRead (dst tag page : Byte)
  | queueRead (dst tag offset : Byte)
  | fanRead (dst tag fan : Byte)
  | sensorRead (dst tag channel : Byte)
  | zoneRead (dst tag zone : Byte)
  | partResetLoop (dst tag : Byte)
  | partResetTables (dst tag : Byte)
  | partResetFull (dst tag : Byte)
  | powerOnReset
  | resetPin
  /-- RESET_TRIGGER_END (R187): which of the two triggers ends. -/
  | resetTriggerEnd (trigger : ResetTrigger)
deriving DecidableEq, Repr

end Sys2Proof
end

