-- ==== Sys2Proof/Decode.lean ====
section
/-! DEFINITION. The rows of spec/opcode_table.json give no bits (every row's fields list is empty), so no
word spells a command. -/

namespace Sys2Proof

/-- The command spelt by a word of the table's bits: none, as no row has any. -/
def decodeTableWord (_nbits _w : Nat) : Option Instr := none

end Sys2Proof
end

