-- ==== Sys2Proof/Config.lean ====
section
/-! DEFINITION. What is fixed for one part: its identity figures, and the pin levels the model's reset state
stands on. The spec leaves no result of a command undefined, so there is no free value. -/

namespace Sys2Proof.Config

/-- Vendor code reported by IDENTIFY (10, section 10.3). -/
def vendorCode : Nat := 0x5710

/-- Part code reported by IDENTIFY. -/
def partCode : Nat := 0x2408

/-- Revision reported by IDENTIFY. -/
def revision : Nat := 3

/-- DESIGN CHOICE (log 8), unsafe: the input pins at the model's reset. Every bay input is inactive, every
analog code 0, the straps select 24 bays, ceiling code 1 (3600) and policy AUTO, as in the worked cold start
of chapter 9. -/
def resetPins : Pins where
  bays := Vector.replicate 24
    { presence := false, carrier := 0#4, powerGood := false, switchFault := false, activity := false }
  analog := Vector.replicate 9 0#12
  straps := { bayCount := 2#2, ceiling := 1#2, policy := true }

end Sys2Proof.Config
end

