-- ==== Sys2Proof/Machine/Records.lean ====
section
/-! DEFINITION. The records State is made of: enumerations, table entries, bay, fan, zone, channel, frame and
reply records, each with the names of the chapter that defines it. -/

namespace Sys2Proof.Machine

/-! ### Chapter 1: bays -/

/-- The eight bay states (01, section 1.1). -/
inductive BayState where
  | empty | settling | idle | queued | surge | run | drain | fault
deriving DecidableEq, Repr

/-- A resolved class: none, BLANK or a class (R2, R8). -/
inductive BayClass where
  | unresolved
  | blank
  | cls (c : ClassIx)
deriving DecidableEq, Repr

/-- An entry of the carrier map, table 1 (R7). -/
inductive CarrierEntry where
  | cls (c : ClassIx)
  | blank
  | unsupported
deriving DecidableEq, Repr

/-- Fault causes (01, section 1.11). -/
inductive FaultCause where
  | none | unsupportedCarrier | budget | noPowerGood | powerLost | overcurrent | overtemp
deriving DecidableEq, Repr

/-- Loop intent (R12). -/
inductive LoopIntent where
  | follow | on | off | onExpedite
deriving DecidableEq, Repr

/-- Management intent (R12). -/
inductive MgmtIntent where
  | none | on | off
deriving DecidableEq, Repr

/-- Power policy (R5). -/
inductive Policy where
  | manual | auto
deriving DecidableEq, Repr

/-- A set of attention kinds (R32). -/
structure AttnSet where
  presence : Bool
  power : Bool
  fault : Bool
  resetDone : Bool
  temperature : Bool
deriving DecidableEq, Repr

/-- The fields that exist in SURGE alone (R2, R16): the two deadlines as Timebase instants and power-good
seen. The last two marks are the model's own (log 17): the deadline's event has been taken. -/
structure Spin where
  surgeDeadline : Nat
  pgDeadline : Nat
  pgSeen : Bool
  surgeTaken : Bool
  pgTaken : Bool
deriving DecidableEq, Repr

/-- A bay record (01, section 1.1). `presence` is the presence level last taken by the supervisor; `drainDue`
says that the drain timer has reached 0 and its expiry has not been taken yet; `lookPg` and `lookSf` say that
the latest scan's power-good and switch-fault inputs have not been judged yet (log 1, 2, 7, 17). -/
structure Bay where
  state : BayState
  cls : BayClass
  carrier : BitVec 4
  cause : FaultCause
  retries : Nat
  debounce : Option Nat
  drain : Nat
  drainDue : Bool
  spin : Option Spin
  resetHold : Option Nat
  removed : Bool
  loopIntent : LoopIntent
  mgmtIntent : MgmtIntent
  expedite : Bool
  attn : AttnSet
  presence : Bool
  lookPg : Bool
  lookSf : Bool
deriving DecidableEq, Repr

/-- The slot field of table 0: a slot 0 to 191, unmapped (254) or the default slot (255) (R5). -/
inductive SlotField where
  | slot (k : Nat)
  | unmapped
  | byPosition
deriving DecidableEq, Repr

/-- An entry of table 0, bay configuration (R5). -/
structure BayCfg where
  slot : SlotField
  zone : ZoneIx
  policy : Policy
  override : Option ClassIx
  cut : Bool
  mask : AttnSet
deriving DecidableEq, Repr

/-! ### Chapter 2: staging -/

/-- An entry of table 2, drive classes (R38). -/
structure DriveClass where
  surge : Nat
  run : Nat
  spinUp : Nat
  pgTimeout : Nat
  resetHold : Nat
  staged : Bool
  retryLimit : Nat
  warn : Nat
  critical : Nat
deriving DecidableEq, Repr

/-- A stagger interval and per-frame limit (R52). -/
structure Pace where
  interval : Nat
  limit : Nat
deriving DecidableEq, Repr

/-! ### Chapter 4: sensing -/

/-- A channel record (R86). -/
structure Channel where
  raw : Nat
  corrected : Nat
  value : Int
  valid : Bool
deriving DecidableEq, Repr

/-- An entry of table 7, sensor channels (R89). -/
structure SensorCfg where
  enabled : Bool
  zone : Option ZoneIx
  negative : Bool
  magnitude : Nat
  span : Nat
  intercept : Int
deriving DecidableEq, Repr

/-- A conversion under way and whether it has been cancelled (R87, R88). -/
structure Conversion where
  channel : ChannelIx
  cancelled : Bool
deriving DecidableEq, Repr

/-- A present bay temperature record (R95). `stale` says that the event of its turning stale has been taken (R100; log
16); whether the record is valid is its age's alone. -/
structure TempRec where
  value : Int
  age : Nat
  hot : Bool
  stale : Bool
deriving DecidableEq, Repr

/-! ### Chapter 5: cooling -/

/-- Where a zone's demand was taken from (R113). -/
inductive DemandSource where
  | curve | fallback | fanFailed | critical
deriving DecidableEq, Repr

/-- A zone record (R103). -/
structure Zone where
  temp : Option Int
  inputs : Nat
  demand : Nat
  source : DemandSource
  fanFailed : Bool
  hold : Bool
deriving DecidableEq, Repr

/-- An entry of table 6, zone settings (R105). -/
structure ZoneCfg where
  holdTemp : Int
  driveOffset : Nat
  fallback : Nat
deriving DecidableEq, Repr

/-- A curve point, entry of tables 5 and 10 (R109, R110). -/
structure Point where
  temp : Int
  duty : Nat
deriving DecidableEq, Repr

/-- Fan states (R118). -/
inductive FanState where
  | normal | failed | disabled
deriving DecidableEq, Repr

/-- A fan record (R118). -/
structure Fan where
  state : FanState
  target : Nat
  applied : Nat
  tach : Nat
  rpm : Nat
  low : Nat
  good : Nat
  checked : Bool
deriving DecidableEq, Repr

/-- An entry of table 8, fans (R117). -/
structure FanCfg where
  enabled : Bool
  zone : ZoneIx
  fullCurrent : Nat
  minDuty : Nat
  minRpm : Nat
  pulses : Nat
deriving DecidableEq, Repr

/-! ### Chapter 6: indicators -/

/-- The eight patterns (10, R193). -/
inductive Pattern where
  | pass | off | on | slow | fast | wink | breathe | activity
deriving DecidableEq, Repr

/-- The three lights of a bay (R129). -/
inductive Light where
  | activity | locate | fault
deriving DecidableEq, Repr

/-- One pattern per light: an entry of table 3 (R136). -/
structure Patterns where
  activity : Pattern
  locate : Pattern
  fault : Pattern
deriving DecidableEq, Repr

/-- One drive level (0 to 15) per light (R129). -/
structure Levels where
  activity : Nat
  locate : Nat
  fault : Nat
deriving DecidableEq, Repr

/-- The fifteen conditions of a bay (R137), in the order of their bits (R193). -/
inductive Cond where
  | present | queued | held | surge | running | drain | fault | resetActive | attention
  | tempHot | tempStale | zoneFanFailed | zoneHold | loopLost | overdraw
deriving DecidableEq, Repr

/-- An indicator rule, entry of table 4 (R139). The sets are lists in bit order without repeats. -/
structure Rule where
  required : List Cond
  excluded : List Cond
  urgent : Bool
  patterns : Patterns
deriving DecidableEq, Repr

/-- Phases of an activity stretch (R134). -/
inductive StretchPhase where
  | none | dark | lit
deriving DecidableEq, Repr

/-- What the Indicator Unit keeps per bay (R134, R143, R144). `edgeDue`: a rising edge of the activity input
was seen and has not been taken yet. -/
structure BayLights where
  loopCode : Fin 32
  hold : Option (Fin 32)
  phase : StretchPhase
  timer : Nat
  edgeDue : Bool
deriving DecidableEq, Repr

/-! ### Chapter 7: the loop -/

/-- Receiver states (R150). -/
inductive Receiver where
  | between | inFrame | discard
deriving DecidableEq, Repr

/-- A loop symbol as received or sent (R148). -/
inductive LoopSym where
  | data (b : Byte)
  | frameStart | frameEnd | frameAbort | idle
deriving DecidableEq, Repr

/-- A symbol on its way through the two-symbol delay. What depends on the moment of sending (a status byte,
R159; the two check bytes, R153) is filled in when it is sent. -/
inductive TxItem where
  | sym (x : LoopSym)
  | status (b : BayIx)
  | checkHigh
  | checkLow
deriving DecidableEq, Repr

/-- The sending side: the delay line (`first` is sent next), the check register over the bytes sent, and
whether the incoming check of the frame was good (R148, R153). -/
structure Tx where
  first : TxItem
  second : TxItem
  crc : BitVec 16
  good : Bool
deriving DecidableEq, Repr

/-- The frame under way at the receiver, or the capture of the frame that has just ended (R151, R153, R157,
R159, R162, R164). `count` is the number of data bytes received; `placing` the sixteen bytes of a reply being
placed, or nothing; `map` the slot map in force for the frame; `cell` the bytes of a request cell addressed
to this part or to all. -/
structure Frame where
  count : Nat
  flags : Byte
  hop : Byte
  slots : Byte
  crc : BitVec 16
  checkHigh : Byte
  placing : List Byte
  map : Vector (Option Nat) 24
  requests : List (BayIx × Byte)
  cell : Option (List Byte)
deriving DecidableEq, Repr

/-! ### Chapter 8: messages -/

/-- Results (10, section 10.3). -/
inductive Result where
  | ok | okClamped | badKind | badArgument | notPresent | notRunning | notPowered | notFaulted | busy
  | duplicateSlot | readOnly | noWindow | pointerMismatch | invalidCurve
deriving DecidableEq, Repr

/-- A reply record (R164, R168). -/
structure Reply where
  kind : Byte
  tag : Byte
  result : Result
  data : Vector Byte 12
deriving DecidableEq, Repr

/-- The table window (R174). -/
structure Window where
  table : Nat
  start : Nat
  stop : Nat
  pointer : Nat
deriving DecidableEq, Repr

/-! ### Chapter 9: resets -/

/-- The recorded reset cause (R187, R189). -/
inductive ResetCause where
  | powerOn | pin | message
deriving DecidableEq, Repr

/-- The straps as sampled: populated bay count, ceiling code and default policy (R186). -/
structure Straps where
  bayCount : Nat
  ceilingCode : BitVec 2
  policy : Policy
deriving DecidableEq, Repr

/-- The outputs as they stand at the backplane and the fans (R4, R129, R116). `pwm` is the duty the PWM
outputs are running at, `pwmCounter` the 0 to 254 period counter, one for all eight fans (log 28). -/
structure Outputs where
  powerEnable : Vector Bool 24
  driveReset : Vector Bool 24
  lights : Vector Levels 24
  pwm : Vector Nat 8
  pwmCounter : Nat
deriving DecidableEq, Repr

end Sys2Proof.Machine
end

