-- ==== Sys2Proof/Machine/Defaults.lean ====
section
/-! DEFINITION. The value of every item after a full reset, and the default tables that a PART RESET of TABLES
scope restores as well. -/

namespace Sys2Proof.Machine

/-- The straps as a full reset samples them (R186): codes 2 and 3 both select 24 bays. -/
def sampleStraps (p : StrapPins) : Straps where
  bayCount := if p.bayCount = 0#2 then 16 else if p.bayCount = 1#2 then 20 else 24
  ceilingCode := p.ceiling
  policy := if p.policy then .auto else .manual

/-- The ceiling a ceiling code selects (R186). -/
def strapCeiling (code : BitVec 2) : Nat :=
  if code = 0#2 then 2400 else if code = 1#2 then 3600 else if code = 2#2 then 4800 else 7200

/-- No attention kind. -/
def AttnSet.empty : AttnSet := ⟨false, false, false, false, false⟩

/-- All five attention kinds. -/
def AttnSet.all : AttnSet := ⟨true, true, true, true, true⟩

/-- A bay record after a full reset (R36). -/
def defaultBay : Bay where
  state := .empty
  cls := .unresolved
  carrier := 0#4
  cause := .none
  retries := 0
  debounce := none
  drain := 0
  drainDue := false
  spin := none
  resetHold := none
  removed := false
  loopIntent := .follow
  mgmtIntent := .none
  expedite := false
  attn := .empty
  presence := false
  lookPg := false
  lookSf := false

/-- Default zone of a bay: its number divided by 6 (R5). -/
def defaultZone (b : BayIx) : ZoneIx := Fin.ofNat 4 (b.val / 6)

/-- Table 0 defaults, with the strapped policy (R5, R36). -/
def defaultBayCfg (policy : Policy) (b : BayIx) : BayCfg where
  slot := .byPosition
  zone := defaultZone b
  policy := policy
  override := none
  cut := true
  mask := .all

/-- Table 0 after a full or TABLES-scope reset. -/
def defaultCfg (policy : Policy) : Vector BayCfg 24 := Vector.ofFn (defaultBayCfg policy)

/-- Table 1 defaults (R7). -/
def defaultCarrierEntry (code : Fin 16) : CarrierEntry :=
  if code = 0 then .cls 0 else if code = 1 then .cls 1 else if code = 2 then .cls 2
  else if code = 15 then .blank else .unsupported

/-- Table 1 after a full or TABLES-scope reset. -/
def defaultCarrierMap : Vector CarrierEntry 16 := Vector.ofFn defaultCarrierEntry

/-- Debounce interval default, in steps of 10 ms (R9). -/
def defaultDebounce : Nat := 25

/-- Drain interval default in ms (R9). -/
def defaultDrain : Nat := 500

/-- Class 0 default: a 3.5-inch hard drive (R39). -/
def defaultClass0 : DriveClass :=
  ⟨210, 75, 30, 150, 0, true, 1, 55, 65⟩

/-- Table 2 defaults (R39); classes 3 to 7 are copies of class 0. -/
def defaultClass (c : ClassIx) : DriveClass :=
  if c = 1 then ⟨120, 55, 25, 120, 0, true, 1, 55, 65⟩
  else if c = 2 then ⟨110, 90, 5, 50, 10, false, 1, 70, 80⟩
  else defaultClass0

/-- Table 2 after a full or TABLES-scope reset. -/
def defaultClasses : Vector DriveClass 8 := Vector.ofFn defaultClass

/-- Stagger interval and limit defaults (R54). -/
def defaultPace : Pace := ⟨1000, 2⟩

/-- Guard default (R69). -/
def defaultGuard : Nat := 100

/-- Overdraw margin default (R69). -/
def defaultMargin : Nat := 200

/-- A channel record after a full reset (R86). -/
def defaultChannel : Channel := ⟨0, 0, 0, false⟩

/-- Table 7 defaults (R89). -/
def defaultSensor (ch : ChannelIx) : SensorCfg :=
  if ch = 8 then ⟨true, none, false, 0, 12000, -36⟩
  else ⟨ch.val < 4, some (Fin.ofNat 4 ch.val), false, 0, 300, -36⟩

/-- Table 7 after a full or TABLES-scope reset. -/
def defaultSensors : Vector SensorCfg 9 := Vector.ofFn defaultSensor

/-- Staleness limit default in seconds (R99). -/
def defaultStaleness : Nat := 10

/-- Cooling period default in ms, up step and down step (R104). -/
def defaultPeriod : Nat := 1000
def defaultUpStep : Nat := 8
def defaultDownStep : Nat := 4

/-- A zone record after a full reset (R127). -/
def defaultZoneRec : Zone := ⟨none, 0, 200, .fallback, false, false⟩

/-- Table 6 defaults (R105). -/
def defaultZoneCfg : ZoneCfg := ⟨110, 8, 200⟩

/-- The default curve (R109). -/
def defaultCurve (point : Nat) : Point :=
  match point with
  | 0 => ⟨50, 70⟩
  | 1 => ⟨70, 100⟩
  | 2 => ⟨80, 137⟩
  | 3 => ⟨90, 200⟩
  | 4 => ⟨100, 255⟩
  | _ => ⟨110, 255⟩

/-- Tables 5 and 10 after a full or TABLES-scope reset (R109, R110): entry zone × 6 + point. -/
def defaultCurves : Vector Point 24 := Vector.ofFn fun i => defaultCurve (i.val % 6)

/-- Table 8 defaults (R117). -/
def defaultFanEntry (f : FanIx) : FanCfg :=
  ⟨f.val < 4, Fin.ofNat 4 f.val, 150, 60, 1500, 2⟩

/-- Table 8 after a full or TABLES-scope reset. -/
def defaultFanCfg : Vector FanCfg 8 := Vector.ofFn defaultFanEntry

/-- A fan record after a full reset (R127). -/
def defaultFan (f : FanIx) : Fan :=
  if f.val < 4 then ⟨.normal, 200, 200, 0, 0, 0, 0, true⟩
  else ⟨.disabled, 0, 0, 0, 0, 0, 0, false⟩

/-- The fan records after a full reset. -/
def defaultFans : Vector Fan 8 := Vector.ofFn defaultFan

/-- The fan reserve handed at a full reset (R83, R127). -/
def defaultReserve : Nat := 472

/-- Three PASS patterns. -/
def allPass : Patterns := ⟨.pass, .pass, .pass⟩

/-- Table 3 defaults (R136). -/
def defaultPattern (code : Fin 32) : Patterns :=
  if code = 1 then ⟨.pass, .fast, .pass⟩
  else if code = 2 then ⟨.pass, .pass, .on⟩
  else if code = 3 then ⟨.pass, .pass, .slow⟩
  else if code = 4 then ⟨.pass, .slow, .pass⟩
  else allPass

/-- Table 3 after a full or TABLES-scope reset. -/
def defaultPatterns : Vector Patterns 32 := Vector.ofFn defaultPattern

/-- Table 4 defaults (R139). -/
def defaultRule (r : Fin 16) : Rule :=
  if r = 0 then ⟨[.fault], [], true, ⟨.pass, .pass, .on⟩⟩
  else if r = 1 then ⟨[.tempHot], [], false, ⟨.pass, .pass, .slow⟩⟩
  else if r = 2 then ⟨[.surge], [], false, ⟨.fast, .pass, .pass⟩⟩
  else if r = 3 then ⟨[.running], [], false, ⟨.activity, .pass, .pass⟩⟩
  else if r = 4 then ⟨[.queued], [.held], false, ⟨.slow, .pass, .pass⟩⟩
  else if r = 5 then ⟨[.held], [], false, ⟨.wink, .pass, .pass⟩⟩
  else if r = 6 then ⟨[.present, .loopLost], [], false, ⟨.pass, .breathe, .pass⟩⟩
  else ⟨[], [], false, allPass⟩

/-- Table 4 after a full or TABLES-scope reset. -/
def defaultRules : Vector Rule 16 := Vector.ofFn defaultRule

/-- Brightness default (R130). -/
def defaultBrightness : Nat := 12

/-- What the Indicator Unit keeps per bay after a full reset (R146). -/
def defaultBayLights : BayLights := ⟨0, none, .none, 0, false⟩

/-- Dark lights. -/
def dark : Levels := ⟨0, 0, 0⟩

/-- Loop timeout default, in steps of 100 ms (R166). -/
def defaultLoopTimeout : Nat := 20

/-- A slot map with every bay unmapped (R157, R167). -/
def noSlots : Vector (Option Nat) 24 := Vector.replicate 24 none

/-- An empty frame capture (R151, R167). -/
def emptyFrame : Frame where
  count := 0
  flags := 0#8
  hop := 0#8
  slots := 0#8
  crc := 0xFFFF#16
  checkHigh := 0#8
  placing := []
  map := noSlots
  requests := []
  cell := none

/-- The sending side with nothing under way: two IDLE symbols in the delay line, the check register at all ones, and the
incoming check taken as good, as no frame has been judged (log 9). -/
def idleTx : Tx where
  first := .sym .idle
  second := .sym .idle
  crc := 0xFFFF#16
  good := true

/-- Every power enable, drive reset and light off (R187), with the given PWM duties. DESIGN CHOICE (log 28), safe:
the spec gives the PWM period counter of R116 no reset value; one counter shared by all eight fans starts at 0, and
stands at 0 in the held phase. -/
def outputsOff (pwm : Vector Nat 8) : Outputs where
  powerEnable := Vector.replicate 24 false
  driveReset := Vector.replicate 24 false
  lights := Vector.replicate 24 dark
  pwm := pwm
  pwmCounter := 0

end Sys2Proof.Machine
end

