-- ==== Sys2Proof/Machine/State.lean ====
section
/-! DEFINITION. The state of the part, block by block (00, "Block diagram in words"), the reasons a step can
stop, and the state right after a power-on reset. -/

namespace Sys2Proof.Machine

/-- Timebase: ticks since the last full reset, the origin of every schedule (R188). -/
structure Timebase where
  now : Nat
deriving DecidableEq, Repr

/-- Reset logic (R187, R189): which triggers hold the part, whether a power-on trigger was seen in the held
phase, the recorded cause and the sampled straps. -/
structure ResetUnit where
  powerOn : Bool
  pin : Bool
  sawPowerOn : Bool
  cause : ResetCause
  straps : Straps
deriving DecidableEq, Repr

/-- The pins: inputs as the latest scan found them, whether the next scan is the first after a full reset
(R134), and the outputs. -/
structure PinUnit where
  pins : Pins
  firstScan : Bool
  out : Outputs
deriving DecidableEq, Repr

/-- Bay Supervisor: bay records, tables 0 and 1, bay timing and attention enable (chapter 1). -/
structure BaySupervisor where
  bays : Vector Bay 24
  cfg : Vector BayCfg 24
  carrierMap : Vector CarrierEntry 16
  debounceSetting : Nat
  drainSetting : Nat
  attentionEnable : Bool
deriving DecidableEq, Repr

/-- Staging Scheduler: table 2, the admission queue (head first) and the stagger frame (R44, R52). -/
structure Scheduler where
  classes : Vector DriveClass 8
  queue : List BayIx
  pace : Pace
  pendingPace : Option Pace
  generation : Bool
  frameNumber : Nat
  admissions : Nat
  nextBoundary : Nat
deriving DecidableEq, Repr

/-- Power Account: entry 0 of table 9, the fan reserve copy and the supply monitor (chapter 3). -/
structure PowerAccount where
  ceiling : Nat
  guardBand : Nat
  margin : Nat
  fanReserve : Nat
  overStreak : Nat
  clearStreak : Nat
  overdraw : Bool
deriving DecidableEq, Repr

/-- Sensor Scanner: channel records, table 7, the scan and the bay temperature store (chapter 4).
`slotDue`: the conversion slot that ended at this tick has not been taken yet. -/
structure SensorScanner where
  channels : Vector Channel 9
  sensors : Vector SensorCfg 9
  pointer : Option ChannelIx
  converting : Option Conversion
  slotDue : Bool
  temps : Vector (Option TempRec) 24
  staleness : Nat
deriving DecidableEq, Repr

/-- Cooling Controller (chapter 5). -/
structure CoolingUnit where
  zones : Vector Zone 4
  zoneCfg : Vector ZoneCfg 4
  fans : Vector Fan 8
  fanCfg : Vector FanCfg 8
  pendingCurves : Vector Point 24
  activeCurves : Vector Point 24
  period : Nat
  upStep : Nat
  downStep : Nat
  periodEnd : Nat
  periodLength : Nat
deriving DecidableEq, Repr

/-- Indicator Unit (chapter 6). `resolutionDue`: this tick's resolution has not been taken yet. -/
structure IndicatorUnit where
  patterns : Vector Patterns 32
  rules : Vector Rule 16
  brightness : Nat
  epoch : Nat
  bays : Vector BayLights 24
  levels : Vector Levels 24
  resolutionDue : Bool
deriving DecidableEq, Repr

/-- Loop Engine (chapter 7). `frameEnd`: a frame has ended at its length with a good (true) or bad (false)
check and the end has not been taken yet. -/
structure LoopEngine where
  receiver : Receiver
  position : Option (Fin 8)
  slotMap : Vector (Option Nat) 24
  mapConflict : Bool
  frame : Frame
  frameEnd : Option Bool
  reply : Option Reply
  replyPlaced : Bool
  overrun : Bool
  timeout : Nat
  timer : Nat
  lost : Bool
  clock : Bool
  tx : Tx
  sent : LoopSym
deriving DecidableEq, Repr

/-- The whole part, and the queue of commands that wait. -/
structure State where
  time : Timebase
  rst : ResetUnit
  io : PinUnit
  sup : BaySupervisor
  sched : Scheduler
  acct : PowerAccount
  scan : SensorScanner
  cool : CoolingUnit
  ind : IndicatorUnit
  loop : LoopEngine
  window : Option Window
  pending : List Instr
deriving DecidableEq, Repr

/-- Why a step stops. -/
inductive Fault where
  /-- Raised by an event command that names a bay input above 23 or a fan input above 7: the part has no such
  line. Safe: no such event can reach the part (log 23). -/
  | noSuchLine
deriving DecidableEq, Repr

/-- Why a command has no meaning. -/
inductive Refusal where
  /-- Raised by an arm of exec whose command has no meaning yet. Safe: nothing is claimed of it. No arm raises
  it now. -/
  | notModelled (mnemonic : String)
deriving DecidableEq, Repr

/-- The state right after a power-on reset with the input pins of `Config.resetPins` (R36, R50, R57, R83, R86,
R127, R146, R167, R174, R188). -/
def State.reset : State where
  time := { now := 0 }
  rst :=
    { powerOn := false, pin := false, sawPowerOn := false, cause := .powerOn
      straps := sampleStraps Config.resetPins.straps }
  io := { pins := Config.resetPins, firstScan := true, out := outputsOff (Vector.ofFn fun f => (defaultFan f).applied) }
  sup :=
    { bays := Vector.replicate 24 defaultBay
      cfg := defaultCfg (sampleStraps Config.resetPins.straps).policy
      carrierMap := defaultCarrierMap
      debounceSetting := defaultDebounce
      drainSetting := defaultDrain
      attentionEnable := true }
  sched :=
    { classes := defaultClasses, queue := [], pace := defaultPace, pendingPace := none, generation := false
      frameNumber := 0, admissions := 0, nextBoundary := defaultPace.interval }
  acct :=
    { ceiling := strapCeiling Config.resetPins.straps.ceiling, guardBand := defaultGuard, margin := defaultMargin
      fanReserve := defaultReserve, overStreak := 0, clearStreak := 0, overdraw := false }
  scan :=
    { channels := Vector.replicate 9 defaultChannel, sensors := defaultSensors, pointer := some 0
      converting := some { channel := 0, cancelled := false }, slotDue := false
      temps := Vector.replicate 24 none, staleness := defaultStaleness }
  cool :=
    { zones := Vector.replicate 4 defaultZoneRec, zoneCfg := Vector.replicate 4 defaultZoneCfg
      fans := defaultFans, fanCfg := defaultFanCfg, pendingCurves := defaultCurves
      activeCurves := defaultCurves, period := defaultPeriod, upStep := defaultUpStep
      downStep := defaultDownStep, periodEnd := defaultPeriod, periodLength := defaultPeriod }
  ind :=
    { patterns := defaultPatterns, rules := defaultRules, brightness := defaultBrightness, epoch := 0
      bays := Vector.replicate 24 defaultBayLights, levels := Vector.replicate 24 dark
      resolutionDue := false }
  loop :=
    { receiver := .discard, position := none, slotMap := noSlots, mapConflict := false, frame := emptyFrame
      frameEnd := none, reply := none, replyPlaced := false, overrun := false
      timeout := defaultLoopTimeout, timer := 2000, lost := false, clock := true, tx := idleTx, sent := .idle }
  window := none
  pending := []

end Sys2Proof.Machine
end

