-- ==== Sys2Proof/Machine/Ops.lean ====
section
/-! DEFINITION. Named reads and updates of State, the figures derived from it, and the wrappers every command's
meaning stands in. -/

namespace Sys2Proof.Machine

/-! ### Reads and updates by index -/

/-- The record of bay b. -/
def State.bay (s : State) (b : BayIx) : Bay := s.sup.bays.get b

/-- Replace the record of bay b. -/
def State.setBay (s : State) (b : BayIx) (x : Bay) : State :=
  { s with sup := { s.sup with bays := s.sup.bays.set b x } }

/-- The table 0 entry of bay b. -/
def State.bayCfg (s : State) (b : BayIx) : BayCfg := s.sup.cfg.get b

/-- Replace the table 0 entry of bay b. -/
def State.setBayCfg (s : State) (b : BayIx) (x : BayCfg) : State :=
  { s with sup := { s.sup with cfg := s.sup.cfg.set b x } }

/-- What the latest scan showed of bay b. -/
def State.seen (s : State) (b : BayIx) : BayInputs := s.io.pins.bays.get b

/-- The drive class table's entry for class c (R38). -/
def State.driveClass (s : State) (c : ClassIx) : DriveClass := s.sched.classes.get c

/-- The bay temperature record of bay b (R95). -/
def State.temp (s : State) (b : BayIx) : Option TempRec := s.scan.temps.get b

/-- Replace the bay temperature record of bay b. -/
def State.setTemp (s : State) (b : BayIx) (x : Option TempRec) : State :=
  { s with scan := { s.scan with temps := s.scan.temps.set b x } }

/-- The channel record of channel ch (R86). -/
def State.channel (s : State) (ch : ChannelIx) : Channel := s.scan.channels.get ch

/-- Replace the channel record of channel ch. -/
def State.setChannel (s : State) (ch : ChannelIx) (x : Channel) : State :=
  { s with scan := { s.scan with channels := s.scan.channels.set ch x } }

/-- The table 7 entry of channel ch. -/
def State.sensor (s : State) (ch : ChannelIx) : SensorCfg := s.scan.sensors.get ch

/-- The zone record of zone z (R103). -/
def State.zone (s : State) (z : ZoneIx) : Zone := s.cool.zones.get z

/-- The table 6 entry of zone z. -/
def State.zoneCfg (s : State) (z : ZoneIx) : ZoneCfg := s.cool.zoneCfg.get z

/-- The fan record of fan f (R118). -/
def State.fan (s : State) (f : FanIx) : Fan := s.cool.fans.get f

/-- Replace the fan record of fan f. -/
def State.setFan (s : State) (f : FanIx) (x : Fan) : State :=
  { s with cool := { s.cool with fans := s.cool.fans.set f x } }

/-- The table 8 entry of fan f. -/
def State.fanCfg (s : State) (f : FanIx) : FanCfg := s.cool.fanCfg.get f

/-- What the Indicator Unit keeps for bay b. -/
def State.bayLights (s : State) (b : BayIx) : BayLights := s.ind.bays.get b

/-- Replace what the Indicator Unit keeps for bay b. -/
def State.setBayLights (s : State) (b : BayIx) (x : BayLights) : State :=
  { s with ind := { s.ind with bays := s.ind.bays.set b x } }

/-! ### Conditions of the part and of a bay -/

/-- The part is held in reset by a trigger (R187). -/
def State.inReset (s : State) : Bool := s.rst.powerOn || s.rst.pin

/-- Bay b is populated: below the strapped bay count (R3, R186). -/
def State.populated (s : State) (b : BayIx) : Bool := b.val < s.rst.straps.bayCount

/-- The part holds a position (R155). -/
def State.placed (s : State) : Bool := s.loop.position.isSome

/-- A bay is powered in SURGE and RUN (R4). -/
def Bay.powered (x : Bay) : Bool := x.state = .surge || x.state = .run

/-- The drive reset is asserted throughout SURGE, and in RUN while the reset hold timer exists (R4). -/
def Bay.resetAsserted (x : Bay) : Bool := x.state = .surge || (x.state = .run && x.resetHold.isSome)

/-- The drain timer is running: above 0, or at 0 with its expiry still to be taken (R28; log 17). -/
def Bay.drainRunning (x : Bay) : Bool := x.drain != 0 || x.drainDue

/-- The drive class of bay b, if its resolved class is one (R38). -/
def State.classOf (s : State) (b : BayIx) : Option DriveClass :=
  match (s.bay b).cls with
  | .cls c => some (s.driveClass c)
  | .blank => none
  | .unresolved => none

/-- The hold of the zone bay b sits in (R60). -/
def State.zoneHeld (s : State) (b : BayIx) : Bool := (s.zone (s.bayCfg b).zone).hold

/-- A bay reports held while it is QUEUED and its zone is held (R15, R60). -/
def State.reportsHeld (s : State) (b : BayIx) : Bool := (s.bay b).state = .queued && s.zoneHeld b

/-- The effective staleness limit in ms (R99). -/
def effectiveStaleness (limit : Nat) : Nat := min 65535 (limit * 1000)

/-- A record is valid while it is present and its age is below the effective staleness limit (R95). -/
def State.tempValid (s : State) (b : BayIx) : Bool :=
  match s.temp b with
  | some t => decide (t.age < effectiveStaleness s.scan.staleness)
  | none => false

/-! ### The power account's derived figures (chapter 3) -/

/-- The draw of bay b: surge current in SURGE, run current in RUN, 0 otherwise (R66). -/
def State.draw (s : State) (b : BayIx) : Nat :=
  match s.classOf b with
  | some c => if (s.bay b).state = .surge then c.surge else if (s.bay b).state = .run then c.run else 0
  | none => 0

/-- The committed draw: the sum of the draws (R67). -/
def State.committed (s : State) : Nat := (allBays.map s.draw).sum

/-- The budget limit: ceiling less guard, signed (R76). -/
def State.budgetLimit (s : State) : Int := (s.acct.ceiling : Int) - s.acct.guardBand

/-- The headroom: ceiling less guard, committed draw and fan reserve, signed (R72). -/
def State.headroom (s : State) : Int := s.budgetLimit - s.committed - s.acct.fanReserve

/-- The deficit: negative headroom (R72). -/
def State.deficit (s : State) : Bool := s.headroom < 0

/-- The shortfall: the negated headroom in deficit, at most 65535, else 0 (R72). -/
def State.shortfall (s : State) : Nat := min 65535 (-s.headroom).toNat

/-- The headroom as POWER READ shows it (R72). -/
def State.reportedHeadroom (s : State) : Nat := s.headroom.toNat

/-! ### Clamping -/

/-- Clamp to a range (00, "Arithmetic"). -/
def clampNat (lo hi n : Nat) : Nat := max lo (min hi n)

/-- Clamp a signed value to a range. -/
def clampInt (lo hi n : Int) : Int := max lo (min hi n)

/-- Quotient rounded up, of a signed numerator by a positive denominator. -/
def ceilDiv (a b : Int) : Int := -((-a) / b)

/-! ### Wrappers of the commands' meanings -/

/-- The outcome type of every meaning. -/
abbrev Out := Host.Outcome State Fault Refusal

/-- A command of the part as a whole: without effect while the part is held in reset (R187). -/
def live (s : State) (k : State → State) : Out := if s.inReset then .next s else .next (k s)

/-- An event of a bay line: the inputs and timers of an absent bay are not looked at (R3). -/
def onBay (bay : Nat) (s : State) (k : BayIx → State → State) : Out :=
  if h : bay < 24 then
    if s.inReset || !s.populated ⟨bay, h⟩ then .next s else .next (k ⟨bay, h⟩ s)
  else .fault .noSuchLine

/-- An event of a fan line. -/
def onFan (fan : Nat) (s : State) (k : FanIx → State → State) : Out :=
  if h : fan < 8 then
    if s.inReset then .next s else .next (k ⟨fan, h⟩ s)
  else .fault .noSuchLine

/-- Apply k to every populated bay for which `due` holds when its turn comes, in ascending number. -/
def forBays (due : State → BayIx → Bool) (k : BayIx → State → State) (s : State) : State :=
  allBays.foldl (fun s b => if s.populated b && due s b then k b s else s) s

end Sys2Proof.Machine
end

