-- ==== Sys2Proof/Machine/Flags.lean ====
section
/-! DEFINITION. Flag computations: attention sets, reported attention, the fifteen indicator conditions of a bay
and the items of its status byte. -/

namespace Sys2Proof.Machine

/-- Union of two attention sets. -/
def AttnSet.union (a b : AttnSet) : AttnSet :=
  ⟨a.presence || b.presence, a.power || b.power, a.fault || b.fault, a.resetDone || b.resetDone,
    a.temperature || b.temperature⟩

/-- The members of a that are not in b. -/
def AttnSet.diff (a b : AttnSet) : AttnSet :=
  ⟨a.presence && !b.presence, a.power && !b.power, a.fault && !b.fault, a.resetDone && !b.resetDone,
    a.temperature && !b.temperature⟩

/-- Whether two attention sets share a member. -/
def AttnSet.meets (a b : AttnSet) : Bool :=
  (a.presence && b.presence) || (a.power && b.power) || (a.fault && b.fault) ||
    (a.resetDone && b.resetDone) || (a.temperature && b.temperature)

/-- The set holding PRESENCE alone, and so on for the other kinds (R32). -/
def AttnSet.onlyPresence : AttnSet := ⟨true, false, false, false, false⟩
def AttnSet.onlyPower : AttnSet := ⟨false, true, false, false, false⟩
def AttnSet.onlyFault : AttnSet := ⟨false, false, true, false, false⟩
def AttnSet.onlyResetDone : AttnSet := ⟨false, false, false, true, false⟩
def AttnSet.onlyTemperature : AttnSet := ⟨false, false, false, false, true⟩

/-- Raise attention kinds on a bay record; a flag already set stays set (R32). -/
def Bay.raise (x : Bay) (k : AttnSet) : Bay := { x with attn := x.attn.union k }

/-- Raise attention kinds on bay b. -/
def State.raise (s : State) (b : BayIx) (k : AttnSet) : State := s.setBay b ((s.bay b).raise k)

/-- Reported attention: a flag held within the mask, and the part's attention enable on (R33). -/
def State.reportedAttention (s : State) (b : BayIx) : Bool :=
  s.sup.attentionEnable && (s.bay b).attn.meets (s.bayCfg b).mask

/-- The fifteen conditions of bay b (R137). -/
def State.condition (s : State) (b : BayIx) : Cond → Bool
  | .present =>
    match (s.bay b).state with
    | .idle | .queued | .surge | .run | .fault => true
    | .drain => !(s.bay b).removed
    | .empty | .settling => false
  | .queued => (s.bay b).state = .queued
  | .held => s.reportsHeld b
  | .surge => (s.bay b).state = .surge
  | .running => (s.bay b).state = .run
  | .drain => (s.bay b).state = .drain
  | .fault => (s.bay b).state = .fault
  | .resetActive => (s.bay b).resetAsserted
  | .attention => s.reportedAttention b
  | .tempHot =>
    match s.temp b, s.classOf b with
    | some t, some c => s.tempValid b && decide (2 * (c.warn : Int) ≤ t.value)
    | _, _ => false
  | .tempStale => (s.bay b).state = .run && !s.tempValid b
  | .zoneFanFailed => (s.zone (s.bayCfg b).zone).fanFailed
  | .zoneHold => s.zoneHeld b
  | .loopLost => s.loop.lost
  | .overdraw => s.acct.overdraw

/-- The code of a bay state in a status byte (10, section 10.1). -/
def BayState.code : BayState → Byte
  | .empty => 0#8
  | .settling => 1#8
  | .idle => 2#8
  | .queued => 3#8
  | .surge => 4#8
  | .run => 5#8
  | .drain => 6#8
  | .fault => 7#8

/-- One bit of a byte. -/
def bitIf (c : Bool) (n : Nat) : Byte := if c then 1#8 <<< n else 0#8

/-- The status byte of bay b as it stands (R159, 10 section 10.1). -/
def State.statusByte (s : State) (b : BayIx) : Byte :=
  ((s.bay b).state.code <<< 5) ||| bitIf (s.reportedAttention b) 4 ||| bitIf (s.reportsHeld b) 3 |||
    bitIf (s.tempValid b) 2 ||| bitIf (s.bayLights b).hold.isSome 1 ||| bitIf (s.bay b).resetAsserted 0

end Sys2Proof.Machine
end

