-- ==== Sys2Proof/Machine/Indicators.lean ====
section
/-! DEFINITION. The Indicator Unit (chapter 6): resolution of the lights, patterns, the blink epoch and the
activity stretch. -/

namespace Sys2Proof.Machine

/-- The breathe level at an epoch (R133). -/
def breatheLevel (e : Nat) : Nat :=
  if e < 1000 then min 15 (e * 16 / 1000) else 15 - min 15 ((e - 1000) * 16 / 1000)

/-- The drive level of a pattern at epoch e, with the brightness and the bay's stretch (R132, R133, R134). -/
def levelOf (brightness e : Nat) (phase : StretchPhase) : Pattern → Nat
  | .pass => 0
  | .off => 0
  | .on => brightness
  | .slow => if e % 1000 < 500 then brightness else 0
  | .fast => if e % 250 < 125 then brightness else 0
  | .wink => if e % 1000 < 100 then brightness else 0
  | .breathe => brightness * breatheLevel e / 15
  | .activity => if phase = .dark then 0 else brightness

/-- The pattern of one light. -/
def Patterns.of (p : Patterns) : Light → Pattern
  | .activity => p.activity
  | .locate => p.locate
  | .fault => p.fault

/-- A rule matches bay b when all its required conditions hold and none of its excluded ones (R140). -/
def ruleMatches (s : State) (b : BayIx) (r : Rule) : Bool :=
  r.required.all (s.condition b) && r.excluded.all fun c => !s.condition b c

/-- The matching rules of one urgency, in ascending number (R141). -/
def matching (s : State) (b : BayIx) (urgent : Bool) : List Patterns :=
  (s.ind.rules.toList.filter fun r => (r.urgent == urgent) && ruleMatches s b r).map (·.patterns)

/-- The sources of R141 in order: the hold, the urgent rules, the loop indicator code, the other rules. -/
def sources (s : State) (b : BayIx) : List Patterns :=
  (match (s.bayLights b).hold with
    | some h => [s.ind.patterns.get h]
    | none => []) ++
  matching s b true ++ [s.ind.patterns.get (s.bayLights b).loopCode] ++ matching s b false

/-- The first pattern other than PASS for a light, else OFF (R141). -/
def firstOffer (l : Light) : List Patterns → Pattern
  | [] => .off
  | p :: rest => if p.of l = .pass then firstOffer l rest else p.of l

/-- The pattern of one light of bay b (R141). -/
def resolveLight (s : State) (b : BayIx) (l : Light) : Pattern := firstOffer l (sources s b)

/-- The drive level of one light of bay b at this resolution (R129). -/
def lightLevel (s : State) (b : BayIx) (l : Light) : Nat :=
  levelOf s.ind.brightness s.ind.epoch (s.bayLights b).phase (resolveLight s b l)

/-- The levels of bay b at this resolution; an absent bay's lights are dark (R129). -/
def bayLevels (s : State) (b : BayIx) : Levels :=
  if s.populated b then ⟨lightLevel s b .activity, lightLevel s b .locate, lightLevel s b .fault⟩ else dark

/-- Resolve every light with the epoch as it stands, then advance the epoch (R131). -/
def resolveLights (s : State) : State :=
  { s with
    ind :=
      { s.ind with
        levels := Vector.ofFn (bayLevels s)
        epoch := (s.ind.epoch + 1) % 2000
        resolutionDue := false } }

/-! ### The activity stretch (R134) -/

/-- A rising edge starts a stretch in NONE and is absorbed in DARK and LIT. -/
def BayLights.edge (x : BayLights) : BayLights :=
  if x.phase = .none then { x with edgeDue := false, phase := .dark, timer := 60 } else { x with edgeDue := false }

/-- The stretch timer expires: DARK to LIT, LIT to NONE. -/
def BayLights.expire (x : BayLights) : BayLights :=
  match x.phase with
  | .dark => { x with phase := .lit, timer := 60 }
  | .lit => { x with phase := .none, timer := 0 }
  | .none => x

/-- A rising edge seen at the latest scan has not been taken. -/
def edgeDue (s : State) (b : BayIx) : Bool := (s.bayLights b).edgeDue

/-- The stretch timer has run out and its expiry has not been taken. -/
def stretchDue (s : State) (b : BayIx) : Bool := (s.bayLights b).phase ≠ .none && (s.bayLights b).timer = 0

def takeEdge (b : BayIx) (s : State) : State :=
  if edgeDue s b then s.setBayLights b (s.bayLights b).edge else s

def takeStretch (b : BayIx) (s : State) : State :=
  if stretchDue s b then s.setBayLights b (s.bayLights b).expire else s

/-- DRIVE_ACTIVITY_EDGE. -/
def execDriveActivityEdge (bay : Nat) (s : State) : Out := onBay bay s takeEdge

/-- ACTIVITY_STRETCH_EXPIRY. -/
def execActivityStretchExpiry (bay : Nat) (s : State) : Out := onBay bay s takeStretch

end Sys2Proof.Machine
end

