-- ==== Sys2Proof/Machine/Staging.lean ====
section
/-! DEFINITION. The Staging Scheduler (chapter 2): the admission queue, the queue walk, the admission attempt that
closes an event, and the stagger boundary. -/

namespace Sys2Proof.Machine

/-- The record of a bay of class c admitted now (R16): SURGE, with its deadlines and power-good not seen. -/
def admitted (s : State) (c : DriveClass) (x : Bay) : Bay :=
  { x with
    state := .surge
    spin := some
      { surgeDeadline := s.time.now + c.spinUp * 100, pgDeadline := s.time.now + c.pgTimeout * 10
        pgSeen := false, surgeTaken := false, pgTaken := false }
    lookPg := false
    lookSf := false }

/-- Admission of bay b of class c (R61, R16): it leaves the queue and enters SURGE, its deadlines set from the
class, and a staged admission is counted. -/
def admitBay (b : BayIx) (c : DriveClass) (s : State) : State :=
  let s := s.setBay b (admitted s c (s.bay b))
  { s with
    sched :=
      { s.sched with
        queue := s.sched.queue.filter (· ≠ b)
        admissions := if c.staged then s.sched.admissions + 1 else s.sched.admissions } }

/-- The queue walk from the head (R59): a held bay is passed over; at an unheld bay overdraw, the stagger limit
and the signed headroom are judged in turn, and the first that holds the bay back stops the walk. -/
def walk : List BayIx → State → State
  | [], s => s
  | b :: rest, s =>
    if s.zoneHeld b then walk rest s
    else if s.acct.overdraw then s
    else
      match s.classOf b with
      | none => walk rest s
      | some c =>
        if (s.bay b).state ≠ .queued then walk rest s
        else if c.staged && decide (s.sched.pace.limit ≤ s.sched.admissions) then s
        else if s.headroom < c.surge then s
        else walk rest (admitBay b c s)

/-- One admission attempt: a walk over the queue as it stands (R58, R59). -/
def attempt (s : State) : State := walk s.sched.queue s

/-- The working record of an event: the state so far, the bays that have asked for a tail or head entry, and
whether an admission attempt is owed (R35, R49, R58). -/
structure Work where
  st : State
  tails : List BayIx
  heads : List BayIx
  owed : Bool
deriving DecidableEq, Repr

/-- The working record at the start of an event. -/
def Work.start (s : State) : Work := ⟨s, [], [], false⟩

/-- Change the state of a working record. -/
def Work.map (w : Work) (f : State → State) : Work := { w with st := f w.st }

/-- Replace the record of bay b. -/
def Work.setBay (w : Work) (b : BayIx) (x : Bay) : Work := w.map (·.setBay b x)

/-- Owe an admission attempt. -/
def Work.owe (w : Work) : Work := { w with owed := true }

/-- Ask for a tail entry of bay b (R45). -/
def Work.enterTail (w : Work) (b : BayIx) : Work := { w with tails := b :: w.tails }

/-- Ask for a head entry of bay b, or for its move to the head (R46, R48). -/
def Work.enterHead (w : Work) (b : BayIx) : Work :=
  { w with heads := b :: w.heads, tails := w.tails.filter (· ≠ b) }

/-- Withdraw bay b from wherever it stands; the others keep their order; an attempt follows (R47). -/
def Work.withdraw (w : Work) (b : BayIx) : Work :=
  { w with
    st := { w.st with sched := { w.st.sched with queue := w.st.sched.queue.filter (· ≠ b) } }
    tails := w.tails.filter (· ≠ b)
    heads := w.heads.filter (· ≠ b)
    owed := true }

/-- The queue with an event's group taken in (R49): tail entries appended in ascending number, then the head
entries, withdrawn from their places first, pushed in ascending number. -/
def groupedQueue (q tails heads : List BayIx) : List BayIx :=
  (allBays.filter (· ∈ heads)).reverse ++
    (q.filter (fun b => decide (b ∉ heads)) ++ allBays.filter (· ∈ tails))

/-- The state with the event's group entered into the queue. -/
def Work.entered (w : Work) : State :=
  { w.st with sched := { w.st.sched with queue := groupedQueue w.st.sched.queue w.tails w.heads } }

/-- Whether the hold of some zone has cleared from s to t (R124). -/
def holdCleared (s t : State) : Bool := allZones.any fun z => (s.zone z).hold && !(t.zone z).hold

/-- The attempt points of R58 that show as a change from the event's start s to its end t: a fall of the
committed draw or of the fan reserve, a zone hold or the overdraw cleared. -/
def fellOrCleared (s t : State) : Bool :=
  decide (t.committed < s.committed) || decide (t.acct.fanReserve < s.acct.fanReserve) || holdCleared s t ||
    (s.acct.overdraw && !t.acct.overdraw)

/-- The end of an event that started at s: its group is taken into the queue, and one admission attempt is made
if the event is an attempt point (R49, R58). -/
def Work.finish (s : State) (w : Work) : State :=
  if w.owed || !w.tails.isEmpty || !w.heads.isEmpty || fellOrCleared s w.entered then attempt w.entered
  else w.entered

/-- One event: the changes f, then its end. -/
def event (f : Work → Work) (s : State) : State := (f (Work.start s)).finish s

/-- A stagger boundary is due: the instant of the next boundary has come (R52). -/
def boundaryDue (s : State) : Bool := decide (s.sched.nextBoundary ≤ s.time.now)

/-- The stagger frame after a boundary (R53, steps 1 to 4). -/
def Scheduler.boundary (x : Scheduler) (now : Nat) : Scheduler :=
  let pace := x.pendingPace.getD x.pace
  { x with
    admissions := 0
    frameNumber := (x.frameNumber + 1) % 65536
    pace := pace
    pendingPace := none
    generation := if x.pendingPace.isSome then !x.generation else x.generation
    nextBoundary := now + pace.interval }

/-- Take the stagger boundary (R53). -/
def takeBoundary (s : State) : State :=
  event (fun w => (w.map fun s => { s with sched := s.sched.boundary s.time.now }).owe) s

/-- STAGGER_BOUNDARY. -/
def execStaggerBoundary (s : State) : Out :=
  live s fun s => if boundaryDue s then takeBoundary s else s

end Sys2Proof.Machine
end

