-- ==== Sys2Proof/Machine/Bays.lean ====
section
/-! DEFINITION. The Bay Supervisor (chapter 1): power removal, faults, class resolution, power desire, and the bay
events of the scan and of the bay timers. -/

namespace Sys2Proof.Machine

/-! ### Shared transitions -/

/-- Power removal (R23): the drain timer starts at the drain interval, POWER is raised, the temperature record is
cleared, and the fields that exist in SURGE or RUN alone are discarded (R2). The draw follows the state, which
the caller sets to `next`. -/
def removePower (b : BayIx) (next : BayState) (w : Work) : Work :=
  let x := w.st.bay b
  let w := w.setBay b
    { x with
      state := next
      drain := w.st.sup.drainSetting
      drainDue := false
      spin := none
      resetHold := none
      lookPg := false
      lookSf := false
      attn := x.attn.union .onlyPower }
  w.map (·.setTemp b none)

/-- Entry to FAULT (R26): a powered bay loses its power, the cause is recorded, FAULT is raised. -/
def enterFault (b : BayIx) (cause : FaultCause) (w : Work) : Work :=
  let w := if (w.st.bay b).powered then removePower b .fault w else w
  let x := w.st.bay b
  w.setBay b
    { x with state := .fault, cause := cause, debounce := none, attn := x.attn.union .onlyFault }

/-- Entry to EMPTY (R2, R13, R29, R30): class none, no cause, retries used 0, management intent NONE, expedite
clear; attention flags, loop intent and carrier code stay. -/
def enterEmpty (b : BayIx) (w : Work) : Work :=
  let x := w.st.bay b
  w.setBay b
    { x with
      state := .empty
      cls := .unresolved
      cause := .none
      retries := 0
      debounce := none
      removed := false
      mgmtIntent := .none
      expedite := false }

/-- Entry to SETTLING (R10, R25): the debounce timer starts at the full interval of R9, and the class is none. -/
def enterSettling (b : BayIx) (w : Work) : Work :=
  let x := w.st.bay b
  w.setBay b
    { x with
      state := .settling, cls := .unresolved, cause := .none, removed := false
      debounce := some (w.st.sup.debounceSetting * 10) }

/-- The resolved power desire, true for ON (R12). -/
def desire (s : State) (b : BayIx) : Bool :=
  match (s.bay b).mgmtIntent with
  | .on => true
  | .off => false
  | .none =>
    match (s.bay b).loopIntent with
    | .on => true
    | .onExpedite => true
    | .off => false
    | .follow => (s.bayCfg b).policy = .auto

/-- The desire is decided by a loop intent of ON-EXPEDITE (R12). -/
def decidedByExpedite (s : State) (b : BayIx) : Bool :=
  (s.bay b).mgmtIntent = .none && (s.bay b).loopIntent = .onExpedite

/-- Set the expedite flag (R13). -/
def setExpedite (b : BayIx) (w : Work) : Work := w.setBay b { w.st.bay b with expedite := true }

/-- Move a QUEUED bay to the head of the queue and clear its expedite flag (R48). -/
def moveToHead (b : BayIx) (w : Work) : Work :=
  (w.setBay b { w.st.bay b with expedite := false }).enterHead b

/-- Entry to QUEUED (R14): at the head if the expedite flag is set, which is then cleared, else at the tail. -/
def enterQueued (b : BayIx) (w : Work) : Work :=
  let x := w.st.bay b
  if x.expedite then (w.setBay b { x with state := .queued, expedite := false }).enterHead b
  else (w.setBay b { x with state := .queued }).enterTail b

/-- The surge current of class c exceeds the budget limit, compared signed (R14, R76). -/
def overBudget (s : State) (c : ClassIx) : Bool := decide (s.budgetLimit < (s.driveClass c).surge)

/-- What a bay in IDLE does with its desire (R14). -/
def actInIdle (b : BayIx) (w : Work) : Work :=
  match (w.st.bay b).cls with
  | .unresolved => w
  | .blank => w
  | .cls c =>
    if desire w.st b then
      if overBudget w.st c then enterFault b .budget w else enterQueued b w
    else w

/-- Evaluate the desire of bay b and act on it in the states that do (R12, R14, R15, R19). -/
def evaluate (b : BayIx) (w : Work) : Work :=
  let w := if decidedByExpedite w.st b then setExpedite b w else w
  match (w.st.bay b).state with
  | .idle => actInIdle b w
  | .queued =>
    if desire w.st b then (if (w.st.bay b).expedite then moveToHead b w else w)
    else (w.setBay b { w.st.bay b with state := .idle }).withdraw b
  | .surge => if desire w.st b then w else removePower b .drain w
  | .run => if desire w.st b then w else removePower b .drain w
  | .empty => w
  | .settling => w
  | .drain => w
  | .fault => w

/-- The answer of class resolution with a carrier code: the override if there is one, else the carrier map's
entry for the code (R8). -/
def resolution (s : State) (b : BayIx) : CarrierEntry :=
  match (s.bayCfg b).override with
  | some c => .cls c
  | none => s.sup.carrierMap.get (s.bay b).carrier.toFin

/-- Read the carrier code as the most recent scan showed it (R8). -/
def readCarrier (b : BayIx) (w : Work) : Work :=
  w.setBay b { w.st.bay b with carrier := (w.st.seen b).carrier }

/-- Entry to IDLE with a fresh carrier code and class resolution (R8, R11, R25): UNSUPPORTED leads to FAULT, and
otherwise the desire is evaluated in IDLE. DEDUCED (log 34), safe: at an exit of DRAIN or FAULT whose resolution gives
UNSUPPORTED the bay does not enter IDLE and no desire is evaluated, so that the expedite flag stays as it was. -/
def enterIdle (b : BayIx) (w : Work) : Work :=
  let w := readCarrier b w
  let x := w.st.bay b
  match resolution w.st b with
  | .unsupported =>
    enterFault b .unsupportedCarrier (w.setBay b { x with cls := .unresolved, debounce := none })
  | .blank =>
    evaluate b
      (w.setBay b { x with state := .idle, cls := .blank, cause := .none, debounce := none, removed := false })
  | .cls c =>
    evaluate b
      (w.setBay b { x with state := .idle, cls := .cls c, cause := .none, debounce := none, removed := false })

/-- The exit of DRAIN with a clear removed-during-drain flag, used by a retry and by CLEAR as well (R25, R27,
R28): IDLE if presence is active, EMPTY if not. -/
def leaveUnpowered (b : BayIx) (w : Work) : Work :=
  if (w.st.bay b).presence then enterIdle b w else enterEmpty b w

/-- Class re-resolution in IDLE or QUEUED with the stored carrier code (R31, R63); none in other states. -/
def reresolve (b : BayIx) (w : Work) : Work :=
  let x := w.st.bay b
  match x.state with
  | .idle =>
    match resolution w.st b with
    | .unsupported => enterFault b .unsupportedCarrier (w.setBay b { x with cls := .unresolved })
    | .blank => w.setBay b { x with cls := .blank }
    | .cls c => evaluate b (w.setBay b { x with cls := .cls c })
  | .queued =>
    match resolution w.st b with
    | .unsupported =>
      enterFault b .unsupportedCarrier ((w.setBay b { x with cls := .unresolved }).withdraw b)
    | .blank => evaluate b ((w.setBay b { x with cls := .blank, state := .idle }).withdraw b)
    | .cls c =>
      if overBudget w.st c then enterFault b .budget ((w.setBay b { x with cls := .cls c }).withdraw b)
      else (w.setBay b { x with cls := .cls c }).owe
  | .empty => w
  | .settling => w
  | .surge => w
  | .run => w
  | .drain => w
  | .fault => w

/-- Entry to RUN (R20): POWER is raised, the SURGE fields go, and the drive reset is held for the class reset
hold or released at once. -/
def enterRun (b : BayIx) (w : Work) : Work :=
  let x := w.st.bay b
  let hold := match w.st.classOf b with
    | some c => c.resetHold
    | none => 0
  w.setBay b
    { x with
      state := .run
      spin := none
      resetHold := if hold = 0 then none else some (hold * 10)
      attn := x.attn.union .onlyPower }

/-! ### Presence (R10, R11, R14, R15, R19, R24, R28) -/

/-- The latest scan shows a presence level that the supervisor has not taken yet. Before the first scan after a full
reset there is none to see (R1, R36, R188). -/
def presenceActiveDue (s : State) (b : BayIx) : Bool :=
  !s.io.firstScan && (s.seen b).presence && !(s.bay b).presence

/-- The latest scan shows presence inactive where the supervisor last took it as active. -/
def presenceLossDue (s : State) (b : BayIx) : Bool := !(s.seen b).presence && (s.bay b).presence

/-- Presence goes active: an EMPTY bay enters SETTLING (R10); in DRAIN nothing happens at once (R24). -/
def presenceActive (b : BayIx) (w : Work) : Work :=
  let w := w.setBay b { w.st.bay b with presence := true }
  if (w.st.bay b).state = .empty then enterSettling b w else w

/-- Presence goes inactive, by the state of the bay. -/
def presenceLoss (b : BayIx) (w : Work) : Work :=
  let w := w.setBay b { w.st.bay b with presence := false }
  let x := w.st.bay b
  match x.state with
  | .empty => w
  | .settling => enterEmpty b w
  | .idle => enterEmpty b (w.setBay b (x.raise .onlyPresence))
  | .queued => (enterEmpty b (w.setBay b (x.raise .onlyPresence))).withdraw b
  | .surge =>
    removePower b .drain (w.setBay b { x.raise .onlyPresence with removed := true })
  | .run =>
    removePower b .drain (w.setBay b { x.raise .onlyPresence with removed := true })
  | .drain =>
    if x.removed then w else w.setBay b { x.raise .onlyPresence with removed := true }
  | .fault =>
    if x.drainRunning then
      w.setBay b
        { x.raise .onlyPresence with state := .drain, cause := .none, retries := 0, removed := true }
    else enterEmpty b (w.setBay b (x.raise .onlyPresence))

def takePresenceActive (b : BayIx) (s : State) : State :=
  if presenceActiveDue s b then event (presenceActive b) s else s

def takePresenceLoss (b : BayIx) (s : State) : State :=
  if presenceLossDue s b then event (presenceLoss b) s else s

/-- PRESENCE_ACTIVE. -/
def execPresenceActive (bay : Nat) (s : State) : Out := onBay bay s takePresenceActive

/-- PRESENCE_LOSS. -/
def execPresenceLoss (bay : Nat) (s : State) : Out := onBay bay s takePresenceLoss

/-! ### Power-good and switch fault (R17, R18) -/

/-- A scan in SURGE shows power-good active. -/
def powerGoodSeenDue (s : State) (b : BayIx) : Bool :=
  (s.bay b).lookPg && (s.seen b).powerGood && (s.bay b).state = .surge

/-- Power-good seen is set; after the surge deadline the bay enters RUN at once (R17). -/
def powerGoodSeen (b : BayIx) (w : Work) : Work :=
  let x := w.st.bay b
  match x.spin with
  | none => w
  | some p =>
    let w := w.setBay b { x with lookPg := false, spin := some { p with pgSeen := true } }
    if p.surgeTaken then enterRun b w else w

/-- A scan shows power-good inactive in RUN, or in SURGE after it was seen. -/
def powerGoodLostDue (s : State) (b : BayIx) : Bool :=
  (s.bay b).lookPg && !(s.seen b).powerGood &&
    ((s.bay b).state = .run ||
      ((s.bay b).state = .surge && (match (s.bay b).spin with | some p => p.pgSeen | none => false)))

/-- FAULT, with cause OVERCURRENT if the same scan shows the switch fault, else POWER_LOST (R18). -/
def powerGoodLost (b : BayIx) (w : Work) : Work :=
  enterFault b (if (w.st.seen b).switchFault then .overcurrent else .powerLost) w

/-- A scan in SURGE or RUN shows the switch fault active. -/
def switchFaultDue (s : State) (b : BayIx) : Bool :=
  (s.bay b).lookSf && (s.seen b).switchFault && (s.bay b).powered

/-- FAULT with cause OVERCURRENT (R18). -/
def switchFault (b : BayIx) (w : Work) : Work := enterFault b .overcurrent w

def takePowerGoodSeen (b : BayIx) (s : State) : State :=
  if powerGoodSeenDue s b then event (powerGoodSeen b) s else s

def takePowerGoodLost (b : BayIx) (s : State) : State :=
  if powerGoodLostDue s b then event (powerGoodLost b) s else s

def takeSwitchFault (b : BayIx) (s : State) : State :=
  if switchFaultDue s b then event (switchFault b) s else s

/-- POWER_GOOD_SEEN. -/
def execPowerGoodSeen (bay : Nat) (s : State) : Out := onBay bay s takePowerGoodSeen

/-- POWER_GOOD_LOST. -/
def execPowerGoodLost (bay : Nat) (s : State) : Out := onBay bay s takePowerGoodLost

/-- SWITCH_FAULT. -/
def execSwitchFault (bay : Nat) (s : State) : Out := onBay bay s takeSwitchFault

/-! ### Debounce and drain expiry (R11, R25, R27, R49) -/

/-- The debounce timer has run out and its expiry has not been taken. -/
def debounceDue (s : State) (b : BayIx) : Bool := (s.bay b).state = .settling && (s.bay b).debounce = some 0

/-- The drain timer has run out and its expiry has not been taken. -/
def drainDue (s : State) (b : BayIx) : Bool := (s.bay b).drainDue

/-- Debounce expiry of one bay (R11). -/
def debounceExpiry (b : BayIx) (w : Work) : Work :=
  enterIdle b (w.setBay b ((w.st.bay b).raise .onlyPresence))

/-- A cause that retries by itself (R27). -/
def FaultCause.retries : FaultCause → Bool
  | .noPowerGood => true
  | .powerLost => true
  | .overcurrent => true
  | .none => false
  | .unsupportedCarrier => false
  | .budget => false
  | .overtemp => false

/-- The retry limit of the bay's resolved class, read from the table as it stands (R27, R42). -/
def retryLimit (s : State) (b : BayIx) : Nat :=
  match s.classOf b with
  | some c => c.retryLimit
  | none => 0

/-- Drain expiry of one bay (R25, R27). -/
def drainExpiry (b : BayIx) (w : Work) : Work :=
  let w := w.setBay b { w.st.bay b with drainDue := false }
  let x := w.st.bay b
  match x.state with
  | .drain =>
    if x.presence then (if x.removed then enterSettling b w else enterIdle b w) else enterEmpty b w
  | .fault =>
    if x.cause.retries && decide (x.retries < retryLimit w.st b) then
      leaveUnpowered b (w.setBay b { x with retries := x.retries + 1, cause := .none })
    else w
  | .empty => w
  | .settling => w
  | .idle => w
  | .queued => w
  | .surge => w
  | .run => w

/-- The expiry of one bay if it is due. -/
def expiry (b : BayIx) (w : Work) : Work :=
  if debounceDue w.st b then debounceExpiry b w
  else if drainDue w.st b then drainExpiry b w
  else w

/-- The debounce and drain expiries that have fallen on this tick, as one event (R49; log 5): each bay settles,
drains or retries on its own, and those that enter QUEUED are entered together with one attempt. -/
def takeExpiries (s : State) : State :=
  event (fun w => allBays.foldl (fun w b => if w.st.populated b then expiry b w else w) w) s

/-- DEBOUNCE_EXPIRY. -/
def execDebounceExpiry (bay : Nat) (s : State) : Out :=
  onBay bay s fun b s => if debounceDue s b then takeExpiries s else s

/-- DRAIN_EXPIRY. -/
def execDrainExpiry (bay : Nat) (s : State) : Out :=
  onBay bay s fun b s => if drainDue s b then takeExpiries s else s

/-! ### Deadlines and the reset hold (R17, R20, R21) -/

/-- The surge deadline has come and has not been taken. -/
def surgeDeadlineDue (s : State) (b : BayIx) : Bool :=
  (s.bay b).state = .surge &&
    (match (s.bay b).spin with | some p => !p.surgeTaken && decide (p.surgeDeadline ≤ s.time.now) | none => false)

/-- The surge deadline: RUN if power-good has been seen, else the bay stays in SURGE (R17). -/
def surgeDeadline (b : BayIx) (w : Work) : Work :=
  let x := w.st.bay b
  match x.spin with
  | none => w
  | some p => if p.pgSeen then enterRun b w else w.setBay b { x with spin := some { p with surgeTaken := true } }

/-- The power-good deadline has come and has not been taken. -/
def pgDeadlineDue (s : State) (b : BayIx) : Bool :=
  (s.bay b).state = .surge &&
    (match (s.bay b).spin with | some p => !p.pgTaken && decide (p.pgDeadline ≤ s.time.now) | none => false)

/-- The power-good deadline: FAULT with NO_POWER_GOOD unless power-good has been seen (R17). -/
def powerGoodDeadline (b : BayIx) (w : Work) : Work :=
  let x := w.st.bay b
  match x.spin with
  | none => w
  | some p => if p.pgSeen then w.setBay b { x with spin := some { p with pgTaken := true } } else enterFault b .noPowerGood w

/-- The reset hold timer has run out. -/
def resetHoldDue (s : State) (b : BayIx) : Bool := (s.bay b).state = .run && (s.bay b).resetHold = some 0

/-- The reset is released, the timer goes, RESET_DONE is raised (R20). -/
def resetHoldExpiry (b : BayIx) (w : Work) : Work :=
  w.setBay b { (w.st.bay b).raise .onlyResetDone with resetHold := none }

def takeSurgeDeadline (b : BayIx) (s : State) : State :=
  if surgeDeadlineDue s b then event (surgeDeadline b) s else s

def takePgDeadline (b : BayIx) (s : State) : State :=
  if pgDeadlineDue s b then event (powerGoodDeadline b) s else s

def takeResetHold (b : BayIx) (s : State) : State :=
  if resetHoldDue s b then event (resetHoldExpiry b) s else s

/-- SURGE_DEADLINE. -/
def execSurgeDeadline (bay : Nat) (s : State) : Out := onBay bay s takeSurgeDeadline

/-- POWER_GOOD_DEADLINE. -/
def execPowerGoodDeadline (bay : Nat) (s : State) : Out := onBay bay s takePgDeadline

/-- RESET_HOLD_EXPIRY. -/
def execResetHoldExpiry (bay : Nat) (s : State) : Out := onBay bay s takeResetHold

/-! ### Management requests at a bay (R21, R30) -/

/-- Set the management intent of an accepted message and evaluate the desire, whether or not the intent was another
before (R12, R30; log 26). -/
def setIntent (i : MgmtIntent) (b : BayIx) (w : Work) : Work :=
  evaluate b (w.setBay b { w.st.bay b with mgmtIntent := i })

/-- BAY POWER EXPEDITE when accepted: the expedite flag set and management intent ON (R13, R30); the evaluation moves
a QUEUED bay to the head (R48). -/
def expediteBay (b : BayIx) (w : Work) : Work := setIntent .on b (setExpedite b w)

/-- BAY POWER CYCLE when accepted (R19, R30). -/
def cycleBay (b : BayIx) (w : Work) : Work := setExpedite b (removePower b .drain w)

/-- BAY POWER CLEAR when accepted (R28): cause NONE and retries used 0; DRAIN while the drain timer runs, else
the exit of a drain with a clear flag. -/
def clearFault (b : BayIx) (w : Work) : Work :=
  let x := { w.st.bay b with cause := .none, retries := 0 }
  if x.drainRunning then w.setBay b { x with state := .drain, removed := false }
  else leaveUnpowered b (w.setBay b x)

/-- BAY RESET when accepted: the reset hold timer starts or restarts (R21). -/
def resetBay (b : BayIx) (s : State) : State :=
  let hold := match s.classOf b with
    | some c => c.resetHold
    | none => 0
  s.setBay b { s.bay b with resetHold := some (if hold = 0 then 10 else hold * 10) }

end Sys2Proof.Machine
end

