-- ==== Sys2Proof/Machine/Sensing.lean ====
section
/-! DEFINITION. The Sensor Scanner (chapter 4) and the supply monitor of the Power Account (chapter 3): the
conversion scan, calibration, the bay temperature store, ageing and staleness. -/

namespace Sys2Proof.Machine

/-! ### Supply monitor (R77 to R79) -/

/-- Judge a channel 8 result against ceiling plus margin (R78). -/
def PowerAccount.judge (x : PowerAccount) (measured : Int) : PowerAccount :=
  if ((x.ceiling + x.margin : Nat) : Int) < measured then
    let streak := min 3 (x.overStreak + 1)
    { x with overStreak := streak, clearStreak := 0, overdraw := x.overdraw || streak == 3 }
  else
    let streak := min 3 (x.clearStreak + 1)
    { x with overStreak := 0, clearStreak := streak, overdraw := x.overdraw && streak != 3 }

/-! ### Conversion (R87 to R92) -/

/-- The raw code with the channel's offset, clamped to 0 to 4095 (R90). -/
def correct (c : SensorCfg) (raw : Nat) : Nat :=
  if c.negative then raw - 2 * c.magnitude else min 4095 (raw + 2 * c.magnitude)

/-- The record a conversion latches: a temperature on channels 0 to 7 (R91), a current on channel 8 (R92). -/
def convert (ch : ChannelIx) (c : SensorCfg) (raw : Nat) : Channel :=
  let corrected := correct c raw
  let scaled := corrected * c.span / 4096
  if ch = 8 then ⟨raw, corrected, scaled, true⟩
  else ⟨raw, corrected, clampInt (-80) 255 (c.intercept + scaled), raw != 0 && raw != 4095⟩

/-- The lowest enabled channel above the pointer, else the lowest enabled channel (R87). -/
def nextChannel (sensors : Vector SensorCfg 9) (pointer : Option ChannelIx) : Option ChannelIx :=
  let enabled := allChannels.filter fun ch => (sensors.get ch).enabled
  let above := match pointer with
    | some p => enabled.filter (p < ·)
    | none => []
  match above with
  | ch :: _ => some ch
  | [] => enabled.head?

/-- Choose the channel of the next slot and begin its conversion (R87). -/
def chooseChannel (s : State) : State :=
  match nextChannel s.scan.sensors s.scan.pointer with
  | some ch => { s with scan := { s.scan with pointer := some ch, converting := some ⟨ch, false⟩ } }
  | none => { s with scan := { s.scan with converting := none } }

/-- Latch the result of a conversion of channel ch; a channel 8 result is handed to the supply monitor in the
same event (R77, R92). -/
def latch (ch : ChannelIx) (s : State) : State :=
  let x := convert ch (s.sensor ch) (s.io.pins.analog.get ch).toNat
  let s := s.setChannel ch x
  if ch = 8 then { s with acct := s.acct.judge x.value } else s

/-- The end of a conversion slot: the result is latched unless it was cancelled, and the next channel is
chosen (R87, R88). -/
def endSlot (s : State) : State :=
  let s := match s.scan.converting with
    | some c => if c.cancelled then s else latch c.channel s
    | none => s
  chooseChannel { s with scan := { s.scan with slotDue := false } }

/-- Take the end of the conversion slot. -/
def takeConversion (s : State) : State := event (·.map endSlot) s

/-- CONVERSION_END. -/
def execConversionEnd (s : State) : Out :=
  live s fun s => if s.scan.slotDue then takeConversion s else s

/-! ### The bay temperature store (R95 to R101) -/

/-- Whether a value is on the hot side for bay b's class (R97). -/
def hotSide (s : State) (b : BayIx) (value : Int) : Bool :=
  match s.classOf b with
  | some c => decide (2 * (c.warn : Int) ≤ value)
  | none => false

/-- The recorded hot side: not hot for a cleared record (R97). -/
def recordedHot (s : State) (b : BayIx) : Bool :=
  match s.temp b with
  | some t => t.hot
  | none => false

/-- Store a drive temperature for a bay in RUN (R97): the record, the hot side with its attention, and the
over-temperature cut (R22). -/
def storeReport (b : BayIx) (v : Int) (w : Work) : Work :=
  let value := clampInt (-80) 255 v
  let hot := hotSide w.st b value
  let crossed := hot != recordedHot w.st b
  let w := w.map (·.setTemp b (some ⟨value, 0, hot, false⟩))
  let w := if crossed then w.map (·.raise b .onlyTemperature) else w
  match w.st.classOf b with
  | some c =>
    if (w.st.bayCfg b).cut && decide (2 * (c.critical : Int) ≤ value) then enterFault b .overtemp w else w
  | none => w

/-- The record's age has reached the effective limit and its turning stale has not been taken. -/
def staleDue (s : State) (b : BayIx) : Bool :=
  match s.temp b with
  | some t => !t.stale && decide (effectiveStaleness s.scan.staleness ≤ t.age)
  | none => false

/-- A record turns stale (R100): it keeps value and age, TEMPERATURE is raised, the recorded side is not hot. -/
def turnStale (b : BayIx) (s : State) : State :=
  match s.temp b with
  | some t => (s.setTemp b (some { t with stale := true, hot := false })).raise b .onlyTemperature
  | none => s

/-- A stale record revived by a raised limit (R101): the hot side is judged as at a store. -/
def revive (b : BayIx) (s : State) : State :=
  match s.temp b with
  | some t =>
    let hot := hotSide s b t.value
    let s := s.setTemp b (some { t with stale := false, hot := hot })
    if hot then s.raise b .onlyTemperature else s
  | none => s

/-- Re-judge one record against the effective limit as it stands (R99 to R101). -/
def rejudge (b : BayIx) (s : State) : State :=
  match s.temp b with
  | some t =>
    if t.stale then (if t.age < effectiveStaleness s.scan.staleness then revive b s else s)
    else if effectiveStaleness s.scan.staleness ≤ t.age then turnStale b s
    else s
  | none => s

/-- Re-judge every record (R99). -/
def rejudgeAll (s : State) : State := allBays.foldl (fun s b => rejudge b s) s

def takeStale (b : BayIx) (s : State) : State :=
  if staleDue s b then event (·.map (turnStale b)) s else s

/-- TEMPERATURE_STALE. -/
def execTemperatureStale (bay : Nat) (s : State) : Out := onBay bay s takeStale

/-! ### Enabling and disabling channels (R88, R93) -/

/-- Write table 7 entry ch: a channel disabled loses its valid reading and its conversion under way (R88). -/
def writeSensor (ch : ChannelIx) (c : SensorCfg) (s : State) : State :=
  let was := (s.sensor ch).enabled
  let s := { s with scan := { s.scan with sensors := s.scan.sensors.set ch c } }
  if was && !c.enabled then
    let s := s.setChannel ch { s.channel ch with valid := false }
    match s.scan.converting with
    | some x =>
      if x.channel = ch then { s with scan := { s.scan with converting := some { x with cancelled := true } } } else s
    | none => s
  else s

end Sys2Proof.Machine
end

