-- ==== Sys2Proof/Machine/Cooling.lean ====
section
/-! DEFINITION. The Cooling Controller (chapter 5): the cooling update, curves, fan table writes, the fan reserve
and zone holds. -/

namespace Sys2Proof.Machine

/-! ### Members, fan failure, reserve and holds -/

/-- Fan f is enabled and serves zone z (R103). -/
def fanOf (s : State) (z : ZoneIx) (f : FanIx) : Bool := (s.fanCfg f).enabled && (s.fanCfg f).zone = z

/-- Bay b is populated and sits in zone z (R103). -/
def bayOf (s : State) (z : ZoneIx) (b : BayIx) : Bool := s.populated b && (s.bayCfg b).zone = z

/-- Some enabled fan of the zone is FAILED (R103). -/
def zoneHasFailure (s : State) (z : ZoneIx) : Bool :=
  allFans.any fun f => fanOf s z f && (s.fan f).state = .failed

/-- One fan's share of the reserve (R123): a FAILED fan counts at its full current, a disabled one nothing. -/
def fanShare (s : State) (f : FanIx) : Nat :=
  if (s.fanCfg f).enabled then
    if (s.fan f).state = .failed then (s.fanCfg f).fullCurrent
    else ((s.fanCfg f).fullCurrent * (s.fan f).applied + 254) / 255
  else 0

/-- The fan reserve (R123). -/
def reserve (s : State) : Nat := (allFans.map (fanShare s)).sum

/-- Hand the reserve to the Power Account (R68). -/
def handReserve (s : State) : State := { s with acct := { s.acct with fanReserve := reserve s } }

/-- Change every zone record. -/
def mapZones (f : ZoneIx → Zone → Zone) (s : State) : State :=
  { s with cool := { s.cool with zones := Vector.ofFn fun z => f z (s.zone z) } }

/-- Change every fan record. -/
def mapFans (g : FanIx → Fan → Fan) (s : State) : State :=
  { s with cool := { s.cool with fans := Vector.ofFn fun f => g f (s.fan f) } }

/-- A zone is held while an enabled fan of it is FAILED, or its temperature is at or above its hold
temperature (R124). -/
def holdOf (s : State) (z : ZoneIx) : Bool :=
  zoneHasFailure s z ||
    (match (s.zone z).temp with
      | some t => decide ((s.zoneCfg z).holdTemp ≤ t)
      | none => false)

/-- Recompute the zone holds (R124). -/
def recomputeHolds (s : State) : State := mapZones (fun z x => { x with hold := holdOf s z }) s

/-! ### Curves (R109 to R112) -/

/-- Point i of zone z in a curve table: entry zone × 6 + point. -/
def curvePoint (t : Vector Point 24) (z : ZoneIx) (i : Nat) : Point := t.get (Fin.ofNat 24 (z.val * 6 + i))

/-- The six temperatures strictly ascend (R111). -/
def ascending (t : Vector Point 24) (z : ZoneIx) : Bool :=
  (List.range 5).all fun i => decide ((curvePoint t z i).temp < (curvePoint t z (i + 1)).temp)

/-- Interpolation between two points, rounded up (R112). -/
def interpolate (p q : Point) (t : Int) : Int :=
  p.duty + ceilDiv (((q.duty : Int) - p.duty) * (t - p.temp)) (q.temp - p.temp)

/-- The curve value on a list of points in ascending order: flat below the first and above the last, and on the
segment whose lower point is at or below t and whose upper point is above it otherwise (R112). -/
def curveOn (t : Int) : List Point → Int
  | [] => 0
  | [p] => p.duty
  | p :: q :: rest =>
    if t ≤ p.temp then p.duty
    else if t < q.temp then interpolate p q t
    else curveOn t (q :: rest)

/-- The six active points of zone z. -/
def activePoints (s : State) (z : ZoneIx) : List Point :=
  (List.range 6).map fun i => curvePoint s.cool.activeCurves z i

/-- The curve value of zone z at temperature t (R112). -/
def curveValue (s : State) (z : ZoneIx) (t : Int) : Nat := (curveOn t (activePoints s z)).toNat

/-- Copy the pending points of zone z to its active points (R111). -/
def activateCurve (z : ZoneIx) (s : State) : State :=
  { s with
    cool :=
      { s.cool with
        activeCurves := Vector.ofFn fun i =>
          if i.val / 6 = z.val then s.cool.pendingCurves.get i else s.cool.activeCurves.get i } }

/-! ### The stages of the cooling update (R107) -/

/-- The speed judged at an update (R120). -/
def rpmOf (count pulses period : Nat) : Nat := min 65535 (count * 60000 / (pulses * period))

/-- Tach judgement of one fan (R120, R122). -/
def judgeFan (c : FanCfg) (period : Nat) (x : Fan) : Fan :=
  let rpm := rpmOf x.tach c.pulses period
  let x := { x with rpm := rpm }
  if c.enabled && x.checked then
    if rpm < c.minRpm then
      let low := min 3 (x.low + 1)
      if x.state = .normal && low == 3 then { x with state := .failed, low := 0, good := 0 }
      else { x with low := low, good := 0 }
    else
      let good := min 3 (x.good + 1)
      if x.state = .failed && good == 3 then { x with state := .normal, low := 0, good := 0 }
      else { x with low := 0, good := good }
  else x

/-- Stage 1: tach judgement and the zones' fan-failed fields. -/
def stageTach (s : State) : State :=
  let s := mapFans (fun f x => judgeFan (s.fanCfg f) s.cool.periodLength x) s
  mapZones (fun z x => { x with fanFailed := zoneHasFailure s z }) s

/-- The readings of zone z (R108): its enabled and valid sensors, and its bays' valid temperatures less twice the
drive offset, raised to −80. -/
def zoneReadings (s : State) (z : ZoneIx) : List Int :=
  (allChannels.filterMap fun ch =>
    if ch ≠ 8 ∧ (s.sensor ch).enabled = true ∧ (s.channel ch).valid = true ∧ (s.sensor ch).zone = some z then
      some (s.channel ch).value
    else none) ++
  (allBays.filterMap fun b =>
    match s.temp b with
    | some t =>
      if bayOf s z b && s.tempValid b then some (max (-80) (t.value - 2 * ((s.zoneCfg z).driveOffset : Int))) else none
    | none => none)

/-- The largest of a list, if it has a member. -/
def largest : List Int → Option Int
  | [] => none
  | x :: xs => some (xs.foldl max x)

/-- Stage 2: zone temperatures and counts of valid inputs (R108). -/
def stageTemps (s : State) : State :=
  mapZones (fun z x => { x with temp := largest (zoneReadings s z), inputs := (zoneReadings s z).length }) s

/-- Some bay of the zone has a valid stored temperature at or above twice its class's critical temperature
(R113). -/
def zoneCritical (s : State) (z : ZoneIx) : Bool :=
  allBays.any fun b =>
    bayOf s z b &&
      (match s.temp b, s.classOf b with
        | some t, some c => s.tempValid b && decide (2 * (c.critical : Int) ≤ t.value)
        | _, _ => false)

/-- Demand and source of a zone, the first case that applies (R113). -/
def demandOf (s : State) (z : ZoneIx) : Nat × DemandSource :=
  if (s.zone z).fanFailed then (255, .fanFailed)
  else if zoneCritical s z then (255, .critical)
  else
    match (s.zone z).temp with
    | none => ((s.zoneCfg z).fallback, .fallback)
    | some t => (curveValue s z t, .curve)

/-- Stage 3: demands (R113). -/
def stageDemands (s : State) : State :=
  mapZones (fun z x => { x with demand := (demandOf s z).1, source := (demandOf s z).2 }) s

/-- A source that jumps to full duty (R115). -/
def DemandSource.full : DemandSource → Bool
  | .fanFailed => true
  | .critical => true
  | .curve => false
  | .fallback => false

/-- The applied duty moved toward its target (R115). -/
def slew (up down minDuty target applied : Nat) (full : Bool) : Nat :=
  let moved :=
    if target = 255 ∧ full = true then 255
    else if applied < target then min target (applied + up)
    else max target (applied - down)
  max minDuty moved

/-- Stage 4 for one fan: target, applied duty, a fresh tach count and the checked mark (R114, R115, R120, R121). -/
def driveFan (c : FanCfg) (z : Zone) (up down : Nat) (x : Fan) : Fan :=
  if c.enabled then
    let target := max z.demand c.minDuty
    let applied := slew up down c.minDuty target x.applied z.source.full
    { x with target := target, applied := applied, tach := 0, checked := decide (32 ≤ applied) }
  else { x with target := 0, applied := 0, tach := 0, checked := false }

/-- Stage 4: targets and applied duties. -/
def stageFans (s : State) : State :=
  mapFans (fun f x => driveFan (s.fanCfg f) (s.zone (s.fanCfg f).zone) s.cool.upStep s.cool.downStep x) s

/-- The period that begins at an update ends after the cooling period in force (R106). -/
def nextPeriod (s : State) : State :=
  { s with cool := { s.cool with periodEnd := s.time.now + s.cool.period, periodLength := s.cool.period } }

/-- The stages of the cooling update in order (R107). -/
def coolingStages (s : State) : State :=
  recomputeHolds (handReserve (nextPeriod (stageFans (stageDemands (stageTemps (stageTach s))))))

/-- The cooling period has ended and its update has not been taken (R106). -/
def coolingDue (s : State) : Bool := decide (s.cool.periodEnd ≤ s.time.now)

def takeCooling (s : State) : State := event (·.map coolingStages) s

/-- COOLING_UPDATE. -/
def execCoolingUpdate (s : State) : Out := live s fun s => if coolingDue s then takeCooling s else s

/-- A tach pulse is counted, up to 65535 (R120). -/
def countTach (f : FanIx) (s : State) : State :=
  s.setFan f { s.fan f with tach := min 65535 ((s.fan f).tach + 1) }

/-- TACH_PULSE. -/
def execTachPulse (fan : Nat) (s : State) : Out := onFan fan s countTach

/-! ### Fan table writes (R119) -/

/-- The fan record after a write of its own entry from `old` to `c`, its zone record being z (R119). -/
def rewriteFan (old c : FanCfg) (z : Zone) (x : Fan) : Fan :=
  let x :=
    if old.enabled && !c.enabled then
      { x with state := .disabled, low := 0, good := 0, target := 0, applied := 0, checked := false }
    else if !old.enabled && c.enabled then
      let target := max z.demand c.minDuty
      { x with state := .normal, low := 0, good := 0, target := target, applied := target, checked := false }
    else if c.enabled && (old.zone ≠ c.zone || old.minDuty ≠ c.minDuty) then
      let target := max z.demand c.minDuty
      { x with
        target := target
        applied := if z.source.full then max x.applied target else max x.applied c.minDuty }
    else x
  { x with checked := x.checked && decide (32 ≤ x.applied) }

/-- Recompute the zones' fan-failed fields; a zone that gains one takes demand 255 with source FAN_FAILED, and
its enabled fans take 255 (R119). DESIGN CHOICE (log 29), safe: a zone whose field is yes already, such as one that a
TABLES reset has given a FAILED fan, gains nothing at the write, so a fan enabled in it or moved into it takes R119's
target from the demand the zone kept, and R115's 255 at the next update. -/
def spreadFailure (s : State) : State :=
  let gained := fun z => zoneHasFailure s z && !(s.zone z).fanFailed
  let s' := mapZones
    (fun z x =>
      if gained z then { x with fanFailed := true, demand := 255, source := .fanFailed }
      else { x with fanFailed := zoneHasFailure s z }) s
  mapFans
    (fun f x =>
      if (s.fanCfg f).enabled && gained (s.fanCfg f).zone then { x with target := 255, applied := 255 } else x) s'

/-- Write table 8 entry f, with the reserve hand-over and the holds that follow (R119). -/
def writeFan (f : FanIx) (c : FanCfg) (s : State) : State :=
  let old := s.fanCfg f
  let x := rewriteFan old c (s.zone c.zone) (s.fan f)
  let s := { s with cool := { s.cool with fanCfg := s.cool.fanCfg.set f c } }
  recomputeHolds (handReserve (spreadFailure (s.setFan f x)))

end Sys2Proof.Machine
end

