-- ==== Sys2Proof/Machine/Operands.lean ====
section
/-! DEFINITION. Operand forms: the bytes of cells, replies and table entries (chapter 10), read and written. A
decoder of an entry answers none where a field names no member (R193), and otherwise the entry with the mark
that some number was clamped. -/

namespace Sys2Proof.Machine

/-! ### Bytes and words -/

/-- Byte i of a list, 0 past its end, as a number. -/
def byteAt (e : List Byte) (i : Nat) : Nat := (e.getD i 0#8).toNat

/-- The two-byte field at i, most significant byte first (10). -/
def wordAt (e : List Byte) (i : Nat) : Nat := byteAt e i * 256 + byteAt e (i + 1)

/-- The signed two-byte field at i (R193). -/
def signedAt (e : List Byte) (i : Nat) : Int := (BitVec.ofNat 16 (wordAt e i)).toInt

/-- One byte of a number. -/
def b8 (n : Nat) : Byte := BitVec.ofNat 8 n

/-- Two bytes of a number, most significant first. -/
def b16 (n : Nat) : List Byte := [b8 (n / 256), b8 n]

/-- Two bytes of a signed number, two's complement (R193). -/
def s16 (i : Int) : List Byte := b16 (BitVec.ofInt 16 i).toNat

/-- A reply's twelve data bytes; those a layout does not use are 0 (R194). -/
def dataBytes (l : List Byte) : Vector Byte 12 := Vector.ofFn fun i => l.getD i.val 0#8

/-! ### Codes of enumerations -/

/-- Zone codes: 0 to 3. -/
def decodeZone (n : Nat) : Option ZoneIx := if h : n < 4 then some ⟨n, h⟩ else none

/-- Zone or none: 0 to 3, 255 none. -/
def decodeZoneOrNone (n : Nat) : Option (Option ZoneIx) :=
  if n = 255 then some none else (decodeZone n).map some

/-- A two-valued enumeration: 0 no, 1 yes. -/
def decodeFlag (n : Nat) : Option Bool := if n = 0 then some false else if n = 1 then some true else none

/-- Class or none: 0 to 7, 255 none. -/
def decodeOverride (n : Nat) : Option (Option ClassIx) :=
  if n = 255 then some none else if h : n < 8 then some (some ⟨n, h⟩) else none

/-- Slot field codes (R5): 192 to 253 name nothing. -/
def decodeSlot (n : Nat) : Option SlotField :=
  if n < 192 then some (.slot n) else if n = 254 then some .unmapped else if n = 255 then some .byPosition else none

def encodeSlot : SlotField → Byte
  | .slot k => b8 k
  | .unmapped => 254#8
  | .byPosition => 255#8

/-- A set of attention kinds: bits 0 to 4; bits 5 to 7 name no member (R193). -/
def decodeAttn (n : Nat) : Option AttnSet :=
  if n < 32 then some ⟨n.testBit 0, n.testBit 1, n.testBit 2, n.testBit 3, n.testBit 4⟩ else none

def encodeAttn (a : AttnSet) : Byte :=
  (if a.presence then 1#8 else 0#8) ||| (if a.power then 2#8 else 0#8) ||| (if a.fault then 4#8 else 0#8) |||
    (if a.resetDone then 8#8 else 0#8) ||| (if a.temperature then 16#8 else 0#8)

/-- Carrier map codes (10, section 10.4). -/
def decodeCarrier (n : Nat) : Option CarrierEntry :=
  if h : n < 8 then some (.cls ⟨n, h⟩) else if n = 14 then some .blank else if n = 15 then some .unsupported else none

def encodeCarrier : CarrierEntry → Byte
  | .cls c => b8 c.val
  | .blank => 14#8
  | .unsupported => 15#8

/-- Pattern codes (R193): 8 to 15 name no pattern. -/
def decodePattern (n : Nat) : Option Pattern :=
  match n with
  | 0 => some .pass
  | 1 => some .off
  | 2 => some .on
  | 3 => some .slow
  | 4 => some .fast
  | 5 => some .wink
  | 6 => some .breathe
  | 7 => some .activity
  | _ => none

def encodePattern : Pattern → Nat
  | .pass => 0
  | .off => 1
  | .on => 2
  | .slow => 3
  | .fast => 4
  | .wink => 5
  | .breathe => 6
  | .activity => 7

/-- Three patterns from a byte pair: ACTIVITY and LOCATE in the first byte, FAULT in the high half of the
second. -/
def decodePatterns (x y : Nat) : Option Patterns :=
  match decodePattern (x / 16), decodePattern (x % 16), decodePattern (y / 16) with
  | some a, some l, some f => some ⟨a, l, f⟩
  | _, _, _ => none

/-- All conditions in the order of their bits (R193). -/
def allConds : List Cond :=
  [.present, .queued, .held, .surge, .running, .drain, .fault, .resetActive, .attention, .tempHot, .tempStale,
    .zoneFanFailed, .zoneHold, .loopLost, .overdraw]

/-- The bit of a condition (R193). -/
def Cond.bit : Cond → Nat
  | .present => 0
  | .queued => 1
  | .held => 2
  | .surge => 3
  | .running => 4
  | .drain => 5
  | .fault => 6
  | .resetActive => 7
  | .attention => 8
  | .tempHot => 9
  | .tempStale => 10
  | .zoneFanFailed => 11
  | .zoneHold => 12
  | .loopLost => 13
  | .overdraw => 14

/-- A set of conditions: bit 15 names no member. -/
def decodeConds (n : Nat) : Option (List Cond) :=
  if n < 32768 then some (allConds.filter fun c => n.testBit c.bit) else none

def encodeConds (l : List Cond) : Nat :=
  (allConds.map fun c => if decide (c ∈ l) then 2 ^ c.bit else 0).sum

/-! ### Table entries (10, section 10.4) -/

def decodeBayCfg (e : List Byte) : Option BayCfg :=
  match decodeSlot (byteAt e 0), decodeZone (byteAt e 1), decodeFlag (byteAt e 2), decodeOverride (byteAt e 3),
    decodeFlag (byteAt e 4), decodeAttn (byteAt e 5) with
  | some sl, some z, some p, some o, some cut, some m =>
    some ⟨sl, z, if p then .auto else .manual, o, cut, m⟩
  | _, _, _, _, _, _ => none

def encodeBayCfg (c : BayCfg) : List Byte :=
  [encodeSlot c.slot, b8 c.zone.val, if c.policy = .auto then 1#8 else 0#8,
    match c.override with | some k => b8 k.val | none => 255#8, if c.cut then 1#8 else 0#8, encodeAttn c.mask]

/-- Table 2 (R38, R40): staged is the enumeration, every other field a number. -/
def decodeClass (e : List Byte) : Option (DriveClass × Bool) :=
  match decodeFlag (byteAt e 7 / 64) with
  | none => none
  | some staged =>
    let raw : DriveClass :=
      ⟨wordAt e 0, wordAt e 2, byteAt e 4, byteAt e 5, byteAt e 6, staged, byteAt e 7 % 64, byteAt e 8, byteAt e 9⟩
    let c : DriveClass :=
      ⟨min 2000 raw.surge, min 2000 raw.run, max 1 raw.spinUp, max 1 raw.pgTimeout, raw.resetHold, staged,
        min 3 raw.retryLimit, min 127 raw.warn, min 127 raw.critical⟩
    some (c, decide (c ≠ raw))

def encodeClass (c : DriveClass) : List Byte :=
  b16 c.surge ++ b16 c.run ++
    [b8 c.spinUp, b8 c.pgTimeout, b8 c.resetHold, b8 ((if c.staged then 64 else 0) + c.retryLimit), b8 c.warn,
      b8 c.critical]

def encodePatterns (p : Patterns) : List Byte :=
  [b8 (encodePattern p.activity * 16 + encodePattern p.locate), b8 (encodePattern p.fault * 16)]

def decodeRule (e : List Byte) : Option Rule :=
  match decodeConds (wordAt e 0), decodeConds (wordAt e 2), decodePatterns (byteAt e 4) (byteAt e 5) with
  | some r, some x, some p => some ⟨r, x, (byteAt e 5).testBit 0, p⟩
  | _, _, _ => none

def encodeRule (r : Rule) : List Byte :=
  b16 (encodeConds r.required) ++ b16 (encodeConds r.excluded) ++
    [b8 (encodePattern r.patterns.activity * 16 + encodePattern r.patterns.locate),
      b8 (encodePattern r.patterns.fault * 16 + if r.urgent then 1 else 0)]

/-- Table 5 (R109). -/
def decodePoint (e : List Byte) : Point × Bool :=
  let t := clampInt (-80) 255 (signedAt e 0)
  (⟨t, byteAt e 2⟩, decide (t ≠ signedAt e 0))

def encodePoint (p : Point) : List Byte := s16 p.temp ++ [b8 p.duty]

/-- Table 6 (R105). -/
def decodeZoneCfg (e : List Byte) : ZoneCfg × Bool :=
  let t := clampInt (-80) 255 (signedAt e 0)
  let o := min 31 (byteAt e 2)
  (⟨t, o, byteAt e 3⟩, decide (t ≠ signedAt e 0) || decide (o ≠ byteAt e 2))

def encodeZoneCfg (c : ZoneCfg) : List Byte := s16 c.holdTemp ++ [b8 c.driveOffset, b8 c.fallback]

/-- Table 7 (R89). -/
def decodeSensor (e : List Byte) : Option (SensorCfg × Bool) :=
  match decodeFlag (byteAt e 0), decodeZoneOrNone (byteAt e 1), decodeFlag (byteAt e 2) with
  | some en, some z, some neg =>
    let m := min 7 (byteAt e 3)
    some (⟨en, z, neg, m, wordAt e 4, (BitVec.ofNat 8 (byteAt e 6)).toInt⟩, decide (m ≠ byteAt e 3))
  | _, _, _ => none

def encodeSensor (c : SensorCfg) : List Byte :=
  [if c.enabled then 1#8 else 0#8, match c.zone with | some z => b8 z.val | none => 255#8,
    if c.negative then 1#8 else 0#8, b8 c.magnitude] ++ b16 c.span ++ [BitVec.ofInt 8 c.intercept]

/-- Table 8 (R117). -/
def decodeFan (e : List Byte) : Option (FanCfg × Bool) :=
  match decodeFlag (byteAt e 0), decodeZone (byteAt e 1) with
  | some en, some z =>
    let full := min 1000 (wordAt e 2)
    let pulses := clampNat 1 4 (byteAt e 7)
    some (⟨en, z, full, byteAt e 4, wordAt e 5, pulses⟩,
      decide (full ≠ wordAt e 2) || decide (pulses ≠ byteAt e 7))
  | _, _ => none

def encodeFan (c : FanCfg) : List Byte :=
  [if c.enabled then 1#8 else 0#8, b8 c.zone.val] ++ b16 c.fullCurrent ++ [b8 c.minDuty] ++ b16 c.minRpm ++ [b8 c.pulses]

/-! ### Codes in replies (10, section 10.3) -/

def Result.code : Result → Byte
  | .ok => 0#8
  | .okClamped => 1#8
  | .badKind => 2#8
  | .badArgument => 3#8
  | .notPresent => 4#8
  | .notRunning => 5#8
  | .notPowered => 6#8
  | .notFaulted => 7#8
  | .busy => 8#8
  | .duplicateSlot => 9#8
  | .readOnly => 10#8
  | .noWindow => 11#8
  | .pointerMismatch => 12#8
  | .invalidCurve => 13#8

def BayClass.code : BayClass → Byte
  | .cls c => b8 c.val
  | .blank => 14#8
  | .unresolved => 255#8

def FaultCause.code : FaultCause → Nat
  | .none => 0
  | .unsupportedCarrier => 1
  | .budget => 2
  | .noPowerGood => 3
  | .powerLost => 4
  | .overcurrent => 5
  | .overtemp => 6

def LoopIntent.code : LoopIntent → Nat
  | .follow => 0
  | .on => 1
  | .off => 2
  | .onExpedite => 3

def MgmtIntent.code : MgmtIntent → Nat
  | .none => 0
  | .on => 1
  | .off => 2

def FanState.code : FanState → Byte
  | .normal => 0#8
  | .failed => 1#8
  | .disabled => 2#8

def DemandSource.code : DemandSource → Byte
  | .curve => 0#8
  | .fallback => 1#8
  | .fanFailed => 2#8
  | .critical => 3#8

def ResetCause.code : ResetCause → Byte
  | .powerOn => 0#8
  | .pin => 1#8
  | .message => 2#8

/-! ### Slot request bytes (10, section 10.1) -/

/-- The power intent of a request byte: bits 6 to 5. -/
def requestIntent (r : Byte) : LoopIntent :=
  match r.toNat / 32 % 4 with
  | 0 => .follow
  | 1 => .on
  | 2 => .off
  | _ => .onExpedite

/-- The indicator code of a request byte: bits 4 to 0. -/
def requestCode (r : Byte) : Fin 32 := Fin.ofNat 32 r.toNat

/-- The valid bit of a request byte: bit 7. -/
def requestValid (r : Byte) : Bool := r.getLsbD 7

/-! ### Windows of bays (R34) -/

/-- The populated bay a message's bay byte names (R3). -/
def namedBay (s : State) (n : Byte) : Option BayIx :=
  if h : n.toNat < 24 then if s.populated ⟨n.toNat, h⟩ then some ⟨n.toNat, h⟩ else none else none

/-- The bays of a window: refused if the end is below the start or the start above the last populated bay; an
end above the last populated bay is taken as it. -/
def bayWindow (s : State) (start stop : Byte) : Option (List BayIx) :=
  if stop.toNat < start.toNat ∨ s.rst.straps.bayCount ≤ start.toNat then none
  else some (allBays.filter fun b => decide (start.toNat ≤ b.val) && decide (b.val ≤ stop.toNat) && s.populated b)

end Sys2Proof.Machine
end

