-- ==== Sys2Proof/Machine/SlotMap.lean ====
section
/-! DEFINITION. The slot map of the Loop Engine (section 7.4): claims, owners, conflicts. -/

namespace Sys2Proof.Machine

/-- The slot a slot field resolves to for bay b under the position held (R157). -/
def fieldSlot (s : State) (b : BayIx) : SlotField → Option Nat
  | .slot k => some k
  | .unmapped => none
  | .byPosition => s.loop.position.map fun p => p.val * 24 + b.val

/-- The slot bay b claims: an absent bay claims none (R3, R157). -/
def claim (s : State) (b : BayIx) : Option Nat :=
  if s.populated b then fieldSlot s b (s.bayCfg b).slot else none

/-- A lower-numbered bay claims the same slot (R157). -/
def outranked (s : State) (b : BayIx) : Bool :=
  (claim s b).isSome && allBays.any fun c => decide (c < b) && decide (claim s c = claim s b)

/-- The resolved slot of bay b: its claim, unless a lower-numbered bay owns it (R157). -/
def resolvedSlot (s : State) (b : BayIx) : Option Nat := if outranked s b then none else claim s b

/-- Resolve the slot map again and judge the map-conflict flag again (R157, R158). -/
def resolveMap (s : State) : State :=
  { s with
    loop := { s.loop with slotMap := Vector.ofFn (resolvedSlot s), mapConflict := allBays.any (outranked s) } }

/-- A slot field written to populated bay b would resolve to another bay's resolved slot (R5, R179). -/
def duplicates (s : State) (b : BayIx) (f : SlotField) : Bool :=
  s.populated b && (fieldSlot s b f).isSome &&
    allBays.any fun c => decide (c ≠ b) && decide (s.loop.slotMap.get c = fieldSlot s b f)

end Sys2Proof.Machine
end

