-- ==== Sys2Proof/Machine/Tables.lean ====
section
/-! DEFINITION. The eleven tables (R174 to R181): validation of an entry, what an accepted write does, and what a
GET returns. -/

namespace Sys2Proof.Machine

/-- The entry count of a table (R175). -/
def entryCount (table : Nat) : Nat :=
  match table with
  | 0 => 24
  | 1 => 16
  | 2 => 8
  | 3 => 32
  | 4 => 16
  | 5 => 24
  | 6 => 4
  | 7 => 9
  | 8 => 8
  | 9 => 6
  | 10 => 24
  | _ => 0

/-- What a TABLE PUT comes to: a refusal, or a store with or without clamping and its changes (R178). -/
inductive Put where
  | refuse (r : Result)
  | store (clamped : Bool) (f : Work → Work)

/-- A store, or BAD_ARGUMENT where a field names no member (R178). -/
def Put.of {α : Type} (x : Option (α × Bool)) (f : α → Work → Work) : Put :=
  match x with
  | some (v, clamped) => .store clamped (f v)
  | none => .refuse .badArgument

/-! ### Writes -/

/-- An accepted write of a table 0 entry, field by field in the order R6 lists them (log 14). -/
def writeBayCfg (b : BayIx) (c : BayCfg) (w : Work) : Work :=
  let old := w.st.bayCfg b
  let w := w.map (·.setBayCfg b c)
  let w := if old.slot ≠ c.slot then w.map resolveMap else w
  if w.st.populated b then
    let w := if old.zone ≠ c.zone ∧ (w.st.bay b).state = .queued then w.owe else w
    let w := if old.policy ≠ c.policy then evaluate b w else w
    if old.override ≠ c.override then reresolve b w else w
  else w

/-- Table 0 (R5, R179): enumerations first, then the duplicate slot. -/
def putBayCfg (b : BayIx) (e : List Byte) (s : State) : Put :=
  match decodeBayCfg e with
  | none => .refuse .badArgument
  | some c => if duplicates s b c.slot then .refuse .duplicateSlot else .store false (writeBayCfg b c)

/-- Table 1 (R7). -/
def writeCarrier (i : Fin 16) (c : CarrierEntry) (w : Work) : Work :=
  w.map fun s => { s with sup := { s.sup with carrierMap := s.sup.carrierMap.set i c } }

/-- Table 2 (R41): the draws follow the table, and every accepted write is an attempt point. -/
def writeClass (i : ClassIx) (c : DriveClass) (w : Work) : Work :=
  (w.map fun s => { s with sched := { s.sched with classes := s.sched.classes.set i c } }).owe

/-- Table 3 (R136). -/
def writePatterns (i : Fin 32) (p : Patterns) (w : Work) : Work :=
  w.map fun s => { s with ind := { s.ind with patterns := s.ind.patterns.set i p } }

/-- Table 4 (R139). -/
def writeRule (i : Fin 16) (r : Rule) (w : Work) : Work :=
  w.map fun s => { s with ind := { s.ind with rules := s.ind.rules.set i r } }

/-- Table 5 (R109). -/
def writePoint (i : Fin 24) (p : Point) (w : Work) : Work :=
  w.map fun s => { s with cool := { s.cool with pendingCurves := s.cool.pendingCurves.set i p } }

/-- Table 6 (R105): the holds are recomputed at once; a release is an attempt point. -/
def writeZoneCfg (z : ZoneIx) (c : ZoneCfg) (w : Work) : Work :=
  w.map fun s => recomputeHolds { s with cool := { s.cool with zoneCfg := s.cool.zoneCfg.set z c } }

/-- Table 9 entry 0 (R69, R70): an attempt follows if the ceiling or the guard changed. -/
def writePower (ceiling guardBand margin : Nat) (w : Work) : Work :=
  let changed := decide (w.st.acct.ceiling ≠ ceiling) || decide (w.st.acct.guardBand ≠ guardBand)
  let w := w.map fun s =>
    { s with acct := { s.acct with ceiling := ceiling, guardBand := guardBand, margin := margin } }
  if changed then w.owe else w

/-- Table 9 entry 1 (R54): the pair waits for the next boundary. -/
def writePace (p : Pace) (w : Work) : Work :=
  w.map fun s => { s with sched := { s.sched with pendingPace := some p } }

/-- Table 9 entry 2 (R9). -/
def writeTiming (debounce drain : Nat) (w : Work) : Work :=
  w.map fun s => { s with sup := { s.sup with debounceSetting := debounce, drainSetting := drain } }

/-- Table 9 entry 3 (R33, R166). -/
def writeLoop (timeout : Nat) (enable : Bool) (w : Work) : Work :=
  w.map fun s => { s with loop := { s.loop with timeout := timeout }, sup := { s.sup with attentionEnable := enable } }

/-- Table 9 entry 4 (R99, R104): a changed staleness limit re-judges the records at once. -/
def writeCooling (period up down staleness : Nat) (w : Work) : Work :=
  let changed := decide (w.st.scan.staleness ≠ staleness)
  let w := w.map fun s =>
    { s with
      cool := { s.cool with period := period, upStep := up, downStep := down }
      scan := { s.scan with staleness := staleness } }
  if changed then w.map rejudgeAll else w

/-- Table 9 entry 5 (R130). -/
def writeBrightness (n : Nat) (w : Work) : Work :=
  w.map fun s => { s with ind := { s.ind with brightness := n } }

/-- Table 9 (R69, R54, R9, R33, R166, R104, R99, R130). -/
def putPart (i : Nat) (e : List Byte) : Put :=
  match i with
  | 0 =>
    let c := min 60000 (wordAt e 0)
    let g := min 2000 (wordAt e 2)
    let m := min 2000 (wordAt e 4)
    .store (decide (c ≠ wordAt e 0) || decide (g ≠ wordAt e 2) || decide (m ≠ wordAt e 4)) (writePower c g m)
  | 1 =>
    let n := clampNat 100 10000 (wordAt e 0)
    let l := clampNat 1 8 (byteAt e 2)
    .store (decide (n ≠ wordAt e 0) || decide (l ≠ byteAt e 2)) (writePace ⟨n, l⟩)
  | 2 =>
    let d := max 1 (byteAt e 0)
    let r := clampNat 100 5000 (wordAt e 1)
    .store (decide (d ≠ byteAt e 0) || decide (r ≠ wordAt e 1)) (writeTiming d r)
  | 3 =>
    match decodeFlag (byteAt e 1) with
    | none => .refuse .badArgument
    | some en =>
      let t := max 1 (byteAt e 0)
      .store (decide (t ≠ byteAt e 0)) (writeLoop t en)
  | 4 =>
    let p := clampNat 200 5000 (wordAt e 0)
    let u := max 1 (byteAt e 2)
    let d := max 1 (byteAt e 3)
    let l := max 1 (byteAt e 4)
    .store
      (decide (p ≠ wordAt e 0) || decide (u ≠ byteAt e 2) || decide (d ≠ byteAt e 3) || decide (l ≠ byteAt e 4))
      (writeCooling p u d l)
  | _ =>
    let n := min 15 (byteAt e 0)
    .store (decide (n ≠ byteAt e 0)) (writeBrightness n)

/-- A TABLE PUT of entry i of a table, the window check having passed (R178). -/
def putEntry (table i : Nat) (e : List Byte) (s : State) : Put :=
  match table with
  | 0 => putBayCfg (Fin.ofNat 24 i) e s
  | 1 => Put.of ((decodeCarrier (byteAt e 0)).map (·, false)) (writeCarrier (Fin.ofNat 16 i))
  | 2 => Put.of (decodeClass e) (writeClass (Fin.ofNat 8 i))
  | 3 => Put.of ((decodePatterns (byteAt e 0) (byteAt e 1)).map (·, false)) (writePatterns (Fin.ofNat 32 i))
  | 4 => Put.of ((decodeRule e).map (·, false)) (writeRule (Fin.ofNat 16 i))
  | 5 => .store (decodePoint e).2 (writePoint (Fin.ofNat 24 i) (decodePoint e).1)
  | 6 => .store (decodeZoneCfg e).2 (writeZoneCfg (Fin.ofNat 4 i) (decodeZoneCfg e).1)
  | 7 => Put.of (decodeSensor e) fun c w => w.map (writeSensor (Fin.ofNat 9 i) c)
  | 8 => Put.of (decodeFan e) fun c w => w.map (writeFan (Fin.ofNat 8 i) c)
  | 9 => putPart i e
  | _ => .refuse .readOnly

/-! ### Reads -/

/-- Table 9 entries as a GET returns them; entry 1 shows the pending pair while it exists (R54, R180). -/
def getPart (i : Nat) (s : State) : List Byte :=
  match i with
  | 0 => b16 s.acct.ceiling ++ b16 s.acct.guardBand ++ b16 s.acct.margin
  | 1 =>
    let p := s.sched.pendingPace.getD s.sched.pace
    b16 p.interval ++ [b8 p.limit]
  | 2 => [b8 s.sup.debounceSetting] ++ b16 s.sup.drainSetting
  | 3 => [b8 s.loop.timeout, if s.sup.attentionEnable then 1#8 else 0#8]
  | 4 => b16 s.cool.period ++ [b8 s.cool.upStep, b8 s.cool.downStep, b8 s.scan.staleness]
  | _ => [b8 s.ind.brightness]

/-- The entry bytes a TABLE GET returns (R180). -/
def getEntry (table i : Nat) (s : State) : List Byte :=
  match table with
  | 0 => encodeBayCfg (s.bayCfg (Fin.ofNat 24 i))
  | 1 => [encodeCarrier (s.sup.carrierMap.get (Fin.ofNat 16 i))]
  | 2 => encodeClass (s.driveClass (Fin.ofNat 8 i))
  | 3 => encodePatterns (s.ind.patterns.get (Fin.ofNat 32 i))
  | 4 => encodeRule (s.ind.rules.get (Fin.ofNat 16 i))
  | 5 => encodePoint (s.cool.pendingCurves.get (Fin.ofNat 24 i))
  | 6 => encodeZoneCfg (s.zoneCfg (Fin.ofNat 4 i))
  | 7 => encodeSensor (s.sensor (Fin.ofNat 9 i))
  | 8 => encodeFan (s.fanCfg (Fin.ofNat 8 i))
  | 9 => getPart i s
  | _ => encodePoint (s.cool.activeCurves.get (Fin.ofNat 24 i))

end Sys2Proof.Machine
end

