-- ==== Sys2Proof/Machine/Reset.lean ====
section
/-! DEFINITION. Resets (chapter 9 and section 8.6): the held phase, the full reset, and the TABLES and LOOP
scopes. -/

namespace Sys2Proof.Machine

/-- A full reset (R185, R187, R188): every block takes its full-reset values, the straps are sampled, the cause is
recorded, and every schedule starts from this tick. Kept: the input pins, the power enable and drive reset
levels at the backplane until the first scan (R36), the loop clock and what is already on its way out of the
loop output (R185; log 20), and the waiting commands. DESIGN CHOICE (log 30), safe: a resolution of the lights still
to come at the tick of the reset is dropped, so that the first resolution, at epoch 0, is the next tick's. -/
def fullReset (cause : ResetCause) (s : State) : State :=
  let straps := sampleStraps s.io.pins.straps
  { State.reset with
    rst := { powerOn := false, pin := false, sawPowerOn := false, cause := cause, straps := straps }
    io :=
      { pins := s.io.pins
        firstScan := true
        out :=
          { State.reset.io.out with
            powerEnable := s.io.out.powerEnable
            driveReset := s.io.out.driveReset } }
    sup := { State.reset.sup with cfg := defaultCfg straps.policy }
    acct := { State.reset.acct with ceiling := strapCeiling straps.ceilingCode }
    loop := { State.reset.loop with clock := s.loop.clock, tx := s.loop.tx, sent := s.loop.sent }
    pending := s.pending }

/-- The held phase begins or goes on (R187): bay outputs off, every fan output high, the loop output sending
IDLE; a frame in progress goes no further. -/
def holdPart (s : State) : State :=
  { s with
    io := { s.io with out := outputsOff (Vector.replicate 8 255) }
    loop :=
      { s.loop with receiver := .discard, frame := emptyFrame, frameEnd := none, tx := idleTx, sent := .idle } }

/-- POWER_ON_RESET: the core supply is below its threshold (R187). -/
def execPowerOnReset (s : State) : Out :=
  .next (holdPart { s with rst := { s.rst with powerOn := true, sawPowerOn := true } })

/-- RESET_PIN: the reset pin is asserted (R187). -/
def execResetPin (s : State) : Out := .next (holdPart { s with rst := { s.rst with pin := true } })

/-- RESET_TRIGGER_END (R187, R189): one trigger ends; when none holds the part any longer the full reset is
taken, with cause POWER_ON if a power-on trigger was seen in the held phase and PIN otherwise. DESIGN CHOICE (log
32), safe: the cause is POWER_ON as well where the supply fell while the pin already held the part. -/
def execResetTriggerEnd (trigger : ResetTrigger) (s : State) : Out :=
  if s.inReset then
    let s := match trigger with
      | .powerOn => { s with rst := { s.rst with powerOn := false } }
      | .pin => { s with rst := { s.rst with pin := false } }
    if s.inReset then .next s else .next (fullReset (if s.rst.sawPowerOn then .powerOn else .pin) s)
  else .next s

/-! ### TABLES scope (R183) -/

/-- Every table and setting at its default, with the straps as last sampled (R37, R39, R84, R105, R109, R110,
R130, R136, R139, R147, R167); the stagger defaults wait as pending values (R57). -/
def restoreValues (s : State) : State :=
  { s with
    sup :=
      { s.sup with
        cfg := defaultCfg s.rst.straps.policy
        carrierMap := defaultCarrierMap
        debounceSetting := defaultDebounce
        drainSetting := defaultDrain
        attentionEnable := true }
    sched := { s.sched with classes := defaultClasses, pendingPace := some defaultPace }
    acct :=
      { s.acct with
        ceiling := strapCeiling s.rst.straps.ceilingCode, guardBand := defaultGuard, margin := defaultMargin }
    scan := { s.scan with staleness := defaultStaleness }
    cool :=
      { s.cool with
        zoneCfg := Vector.replicate 4 defaultZoneCfg
        pendingCurves := defaultCurves
        activeCurves := defaultCurves
        period := defaultPeriod
        upStep := defaultUpStep
        downStep := defaultDownStep }
    ind :=
      { s.ind with
        patterns := defaultPatterns
        rules := defaultRules
        brightness := defaultBrightness
        bays := Vector.ofFn fun b => { s.bayLights b with hold := none } }
    loop := { s.loop with timeout := defaultLoopTimeout } }

/-- Table 7 restored as nine accepted PUTs (R93). -/
def restoreSensors (s : State) : State := allChannels.foldl (fun s ch => writeSensor ch (defaultSensor ch) s) s

/-- Table 8 restored (R128): each fan as R119 gives for a write of its entry, and an enabled fan of a zone with a
FAILED fan at 255; the zone records keep temperatures and demands, and take the fan-failed fields (log 15). DESIGN
CHOICE (log 29), safe: a fan that stays enabled and changes its zone or minimum duty, in a restored zone whose source
is CRITICAL, or FAN_FAILED with no FAILED fan left, is raised to its target as R119 gives, not to 60 alone as R128. -/
def restoreFans (s : State) : State :=
  let s := mapFans (fun f x => rewriteFan (s.fanCfg f) (defaultFanEntry f) (s.zone (defaultFanEntry f).zone) x) s
  let s := { s with cool := { s.cool with fanCfg := defaultFanCfg } }
  let s := mapFans
    (fun f x =>
      if (s.fanCfg f).enabled && zoneHasFailure s (s.fanCfg f).zone then { x with target := 255, applied := 255 }
      else x) s
  mapZones (fun z x => { x with fanFailed := zoneHasFailure s z }) s

/-- The desire of a bay whose policy has been restored (R37). The queue keeps its order (R50, R183): a QUEUED bay that
wants power stays in its place. DEDUCED (log 35), safe: its expedite flag stays as well, whatever its loop intent. -/
def evaluateRestored (b : BayIx) (w : Work) : Work :=
  if (w.st.bay b).state = .queued && desire w.st b then w else evaluate b w

/-- The bays whose class override changed with the restoration are resolved again, then those whose policy changed
have their desire evaluated (R37). -/
def restoreBays (old : State) (w : Work) : Work :=
  let w := allBays.foldl
    (fun w b =>
      if w.st.populated b && decide ((old.bayCfg b).override ≠ (w.st.bayCfg b).override) then reresolve b w else w) w
  allBays.foldl
    (fun w b =>
      if w.st.populated b && decide ((old.bayCfg b).policy ≠ (w.st.bayCfg b).policy) then evaluateRestored b w
      else w) w

/-- The restored values in place in every block (R183; log 15). -/
def restoreAll (s : State) : State :=
  let changed := decide (s.scan.staleness ≠ defaultStaleness)
  let t := restoreFans (restoreSensors (restoreValues s))
  let t := if changed then rejudgeAll t else t
  resolveMap (recomputeHolds (handReserve t))

/-- A PART RESET of TABLES scope: one event, closed by one admission attempt (R50, R183). -/
def resetTables (s : State) : State := event (fun w => (restoreBays s (w.map restoreAll)).owe) s

/-! ### LOOP scope (R184) -/

/-- The part becomes unplaced, the reply hold empty, the table window absent, and the slot map is resolved
again. -/
def resetLoop (s : State) : State :=
  resolveMap
    { s with loop := { s.loop with position := none, reply := none, replyPlaced := false }, window := none }

end Sys2Proof.Machine
end

