-- ==== Sys2Proof/Machine/Messages.lean ====
section
/-! DEFINITION. The Message Unit (chapter 8): what every kind of request does and answers, the hand-over of a request
cell (R162, R168), and the message rows of the opcode table. -/

namespace Sys2Proof.Machine

/-- What the execution of a request comes to: the state, the result and the reply's data bytes. `silent`: no
reply is built (R185). -/
structure Answer where
  st : State
  result : Result
  data : List Byte
  silent : Bool

/-- A refused request: nothing changes, and the data bytes are 0 (R169). -/
def refuse (r : Result) (s : State) : Answer := ⟨s, r, [], false⟩

/-- An accepted request without reply data. -/
def accept (s : State) : Answer := ⟨s, .ok, [], false⟩

/-- An accepted reading request: the part stays as it was (R171). -/
def report (data : List Byte) (s : State) : Answer := ⟨s, .ok, data, false⟩

/-- Hand a request cell's request to the Message Unit (R162, R168, R170): nothing at an unplaced part or for another
destination; a broadcast is executed by the kinds that act on it and never answered; an addressed request finds
the reply hold empty and its reply enters it, or finds it occupied and sets the reply-overrun flag. -/
def deliver (dst tag kind : Byte) (acts : Bool) (run : State → Answer) (s : State) : State :=
  match s.loop.position with
  | none => s
  | some p =>
    if dst = 15#8 then (if acts then (run s).st else s)
    else if dst.toNat = p.val then
      if s.loop.reply.isSome then { s with loop := { s.loop with overrun := true } }
      else
        let a := run s
        if a.silent then a.st
        else
          { a.st with
            loop :=
              { a.st.loop with
                reply := some ⟨kind, tag, a.result, dataBytes a.data⟩, replyPlaced := false } }
    else s

/-! ### Bay messages -/

/-- A request that names one bay: refused with BAD_ARGUMENT above the last populated bay (R3, R169). -/
def onNamedBay (bay : Byte) (s : State) (k : BayIx → Answer) : Answer :=
  match namedBay s bay with
  | some b => k b
  | none => refuse .badArgument s

/-- BAY POWER ON, OFF and RELEASE: accepted in every state but EMPTY (R30). -/
def msgIntent (i : MgmtIntent) (bay : Byte) (s : State) : Answer :=
  onNamedBay bay s fun b =>
    if (s.bay b).state = .empty then refuse .notPresent s else accept (event (setIntent i b) s)

/-- BAY POWER EXPEDITE (R30). -/
def msgExpedite (bay : Byte) (s : State) : Answer :=
  onNamedBay bay s fun b =>
    if (s.bay b).state = .empty then refuse .notPresent s else accept (event (expediteBay b) s)

/-- BAY POWER CYCLE: accepted in SURGE and RUN (R19, R30). -/
def msgCycle (bay : Byte) (s : State) : Answer :=
  onNamedBay bay s fun b =>
    if (s.bay b).powered then accept (event (cycleBay b) s) else refuse .notRunning s

/-- BAY POWER CLEAR: accepted in FAULT (R28, R30). -/
def msgClear (bay : Byte) (s : State) : Answer :=
  onNamedBay bay s fun b =>
    if (s.bay b).state = .fault then accept (event (clearFault b) s) else refuse .notFaulted s

/-- BAY POWER by its action byte (10, section 10.3). -/
def msgBayPower (bay action : Byte) (s : State) : Answer :=
  match action.toNat with
  | 0 => msgIntent .on bay s
  | 1 => msgExpedite bay s
  | 2 => msgIntent .off bay s
  | 3 => msgIntent .none bay s
  | 4 => msgCycle bay s
  | 5 => msgClear bay s
  | _ => refuse .badArgument s

/-- BAY RESET: accepted in RUN (R21). -/
def msgBayReset (bay : Byte) (s : State) : Answer :=
  onNamedBay bay s fun b =>
    if (s.bay b).state = .run then accept (resetBay b s) else refuse .notRunning s

/-- BAY CLASS when not refused (R31): the override is written, and IDLE or QUEUED re-resolve at once. -/
def classBay (b : BayIx) (o : Option ClassIx) (w : Work) : Work :=
  reresolve b (w.map fun s => s.setBayCfg b { s.bayCfg b with override := o })

/-- BAY CLASS (R31). -/
def msgBayClass (bay cls : Byte) (s : State) : Answer :=
  onNamedBay bay s fun b =>
    match decodeOverride cls.toNat with
    | none => refuse .badArgument s
    | some o =>
      match (s.bay b).state with
      | .surge | .run | .drain => refuse .busy s
      | .empty | .settling | .idle | .queued | .fault => accept (event (classBay b o) s)

/-- BAY READ's data bytes (R173, 10 section 10.3). -/
def bayReport (s : State) (b : BayIx) : List Byte :=
  let x := s.bay b
  [(x.state.code <<< 5) ||| b8 x.cause.code, x.cls.code, b8 x.carrier.toNat, encodeAttn x.attn,
    b8 (x.loopIntent.code * 64 + x.mgmtIntent.code * 16 + x.retries * 4 +
      (if (s.bayCfg b).policy = .auto then 2 else 0) + if desire s b then 1 else 0),
    bitIf (s.reportsHeld b) 0 ||| bitIf x.expedite 1 ||| bitIf (s.temp b).isSome 2 ||| bitIf (s.tempValid b) 3] ++
  b16 x.drain ++
  (match s.temp b with
    | some t => s16 t.value ++ b16 t.age
    | none => [])

/-- BAY READ (R173). -/
def msgBayRead (bay : Byte) (s : State) : Answer := onNamedBay bay s fun b => report (bayReport s b) s

/-! ### Windows of bays (R34, R144) -/

/-- A message over a window of bays with its change of each bay. -/
def onWindow (start stop : Byte) (s : State) (k : State → BayIx → State) : Answer :=
  match bayWindow s start stop with
  | some bs => accept (bs.foldl k s)
  | none => refuse .badArgument s

/-- ATTENTION CLEAR (R34). -/
def msgAttentionClear (start stop kinds : Byte) (s : State) : Answer :=
  match decodeAttn kinds.toNat with
  | none => refuse .badArgument s
  | some k =>
    onWindow start stop s fun s b => s.setBay b { s.bay b with attn := (s.bay b).attn.diff k }

/-- ATTENTION MASK (R34): the set-mask is added first, then the clear-mask removed. -/
def msgAttentionMask (start stop setMask clearMask : Byte) (s : State) : Answer :=
  match decodeAttn setMask.toNat, decodeAttn clearMask.toNat with
  | some add, some del =>
    onWindow start stop s fun s b =>
      s.setBayCfg b { s.bayCfg b with mask := ((s.bayCfg b).mask.union add).diff del }
  | _, _ => refuse .badArgument s

/-- Set or release the holds of a window (R144). -/
def msgHold (start stop : Byte) (h : Option (Fin 32)) (s : State) : Answer :=
  onWindow start stop s fun s b => s.setBayLights b { s.bayLights b with hold := h }

/-- INDICATOR HOLD by its code byte: 0 to 31 a code, 255 the release, anything else refused (R144). -/
def msgIndicatorHold (start stop code : Byte) (s : State) : Answer :=
  if code = 255#8 then msgHold start stop none s
  else if h : code.toNat < 32 then msgHold start stop (some ⟨code.toNat, h⟩) s
  else refuse .badArgument s

/-- BLINK SYNC (R135). -/
def msgBlinkSync (s : State) : Answer := accept { s with ind := { s.ind with epoch := 0 } }

/-! ### Drive temperatures (R96, R195) -/

/-- The value byte pattern that means no report. -/
def noReport : BitVec 16 := 0x8000#16

/-- The per-bay result of one position (R96). -/
def positionResult (s : State) (n : Nat) (v : BitVec 16) : Byte :=
  if v = noReport then 255#8
  else if h : n < 24 then
    if s.populated ⟨n, h⟩ then
      if (s.bay ⟨n, h⟩).state = .run then
        (if clampInt (-80) 255 v.toInt = v.toInt then Result.ok.code else Result.okClamped.code)
      else Result.notPowered.code
    else Result.badArgument.code
  else Result.badArgument.code

/-- Store the report of one position, where there is one for a populated bay in RUN (R96, R97). -/
def takeReport (n : Nat) (v : BitVec 16) (w : Work) : Work :=
  if v = noReport then w
  else if h : n < 24 then
    if w.st.populated ⟨n, h⟩ && (w.st.bay ⟨n, h⟩).state = .run then storeReport ⟨n, h⟩ v.toInt w else w
  else w

/-- DRIVE TEMPERATURE (R96). -/
def msgDriveTemperature (first : Byte) (v0 v1 v2 : BitVec 16) (s : State) : Answer :=
  onNamedBay first s fun _ =>
    let n := first.toNat
    ⟨event (fun w => takeReport (n + 2) v2 (takeReport (n + 1) v1 (takeReport n v0 w))) s, .ok,
      [positionResult s n v0, positionResult s (n + 1) v1, positionResult s (n + 2) v2], false⟩

/-! ### The table window (R174 to R180) -/

/-- The window's four bytes, or nothing where none stands. -/
def windowBytes (s : State) : List Byte :=
  match s.window with
  | some w => [b8 w.table, b8 w.start, b8 w.stop, b8 w.pointer]
  | none => []

/-- TABLE WINDOW (R176). -/
def msgTableWindow (table start stop : Byte) (s : State) : Answer :=
  if 10 < table.toNat ∨ entryCount table.toNat ≤ start.toNat ∨ entryCount table.toNat ≤ stop.toNat ∨
      stop.toNat < start.toNat then
    ⟨s, .badArgument, windowBytes s, false⟩
  else
    let t := { s with window := some ⟨table.toNat, start.toNat, stop.toNat, start.toNat⟩ }
    ⟨t, .ok, windowBytes t, false⟩

/-- The pointer advanced by one, from the end back to the start (R178, R180). -/
def Window.advance (w : Window) : Window :=
  { w with pointer := if w.pointer = w.stop then w.start else w.pointer + 1 }

/-- TABLE PUT (R177, R178). -/
def msgTablePut (index : Byte) (entry : List Byte) (s : State) : Answer :=
  match s.window with
  | none => refuse .noWindow s
  | some w =>
    if index.toNat ≠ w.pointer then ⟨s, .pointerMismatch, windowBytes s, false⟩
    else
      match putEntry w.table w.pointer entry s with
      | .refuse r => ⟨s, r, windowBytes s ++ [index], false⟩
      | .store clamped f =>
        let t := { event f s with window := some w.advance }
        ⟨t, if clamped then .okClamped else .ok, windowBytes t ++ [index], false⟩

/-- TABLE GET (R177, R180). -/
def msgTableGet (index : Byte) (s : State) : Answer :=
  match s.window with
  | none => refuse .noWindow s
  | some w =>
    if index.toNat ≠ w.pointer then ⟨s, .pointerMismatch, windowBytes s, false⟩
    else
      ⟨{ s with window := some w.advance }, .ok, [index, b8 w.advance.pointer] ++ getEntry w.table w.pointer s, false⟩

/-! ### Curves and readings -/

/-- CURVE ACTIVATE (R111). -/
def msgCurveActivate (zone : Byte) (s : State) : Answer :=
  match decodeZone zone.toNat with
  | none => refuse .badArgument s
  | some z => if ascending s.cool.pendingCurves z then accept (activateCurve z s) else refuse .invalidCurve s

/-- IDENTIFY (R172): the reply-overrun flag is cleared after its value has been taken. -/
def msgIdentify (s : State) : Answer :=
  ⟨{ s with loop := { s.loop with overrun := false } }, .ok,
    b16 Config.vendorCode ++ b16 Config.partCode ++
      [b8 Config.revision, b8 (match s.loop.position with | some p => p.val | none => 0),
        bitIf s.placed 0 ||| bitIf s.loop.mapConflict 1 ||| bitIf s.loop.overrun 2 ||| bitIf s.loop.lost 3,
        b8 s.rst.straps.bayCount, b8 s.rst.straps.ceilingCode.toNat, s.rst.cause.code], false⟩

/-- POWER READ, page 0 (R82). -/
def powerPage0 (s : State) : List Byte :=
  b16 s.acct.ceiling ++ b16 s.acct.guardBand ++ b16 s.committed ++ b16 s.acct.fanReserve ++
    b16 s.reportedHeadroom ++ b16 s.shortfall

/-- POWER READ, page 1 (R81, R82). -/
def powerPage1 (s : State) : List Byte :=
  b16 (s.channel 8).value.toNat ++
    [bitIf (s.channel 8).valid 0 ||| bitIf s.acct.overdraw 1 ||| bitIf s.sched.generation 2,
      b8 s.sched.queue.length] ++
    b16 s.sched.frameNumber ++ [b8 s.sched.admissions] ++ b16 s.sched.pace.interval ++ [b8 s.sched.pace.limit]

/-- POWER READ (R82). -/
def msgPowerRead (page : Byte) (s : State) : Answer :=
  match page.toNat with
  | 0 => report (powerPage0 s) s
  | 1 => report (powerPage1 s) s
  | _ => refuse .badArgument s

/-- QUEUE READ (R51): the length and up to 10 bay numbers from the offset onward; 255 is no bay. -/
def msgQueueRead (offset : Byte) (s : State) : Answer :=
  if 23 < offset.toNat then refuse .badArgument s
  else
    report
      (b8 s.sched.queue.length ::
        (List.range 10).map fun i =>
          match s.sched.queue[offset.toNat + i]? with
          | some b => b8 b.val
          | none => 255#8) s

/-- FAN READ (R126). -/
def msgFanRead (fan : Byte) (s : State) : Answer :=
  if h : fan.toNat < 8 then
    let x := s.fan ⟨fan.toNat, h⟩
    let c := s.fanCfg ⟨fan.toNat, h⟩
    report
      ([x.state.code, b8 x.target, b8 x.applied] ++ b16 x.tach ++ b16 x.rpm ++
        [b8 x.low, b8 x.good, bitIf x.checked 0 ||| bitIf c.enabled 1, b8 c.zone.val]) s
  else refuse .badArgument s

/-- SENSOR READ (R94). -/
def msgSensorRead (channel : Byte) (s : State) : Answer :=
  if h : channel.toNat < 9 then
    let x := s.channel ⟨channel.toNat, h⟩
    let c := s.sensor ⟨channel.toNat, h⟩
    report
      (b16 x.raw ++ b16 x.corrected ++ s16 x.value ++
        [bitIf x.valid 0 ||| bitIf c.enabled 1, match c.zone with | some z => b8 z.val | none => 255#8]) s
  else refuse .badArgument s

/-- ZONE READ (R125). -/
def msgZoneRead (zone : Byte) (s : State) : Answer :=
  match decodeZone zone.toNat with
  | none => refuse .badArgument s
  | some z =>
    let x := s.zone z
    let c := s.zoneCfg z
    report
      (s16 (x.temp.getD 0) ++
        [b8 x.inputs, b8 x.demand, x.source.code,
          bitIf x.temp.isSome 0 ||| bitIf x.fanFailed 1 ||| bitIf x.hold 2] ++
        s16 c.holdTemp ++ [b8 c.driveOffset, b8 c.fallback]) s

/-! ### PART RESET (R182 to R185) -/

/-- PART RESET of LOOP scope. -/
def msgResetLoop (s : State) : Answer := accept (resetLoop s)

/-- PART RESET of TABLES scope. -/
def msgResetTables (s : State) : Answer := accept (resetTables s)

/-- PART RESET of FULL scope: no reply (R185). -/
def msgResetFull (s : State) : Answer := ⟨fullReset .message s, .ok, [], true⟩

/-- A kind value that names no kind (R169). -/
def msgBadKind (s : State) : Answer := refuse .badKind s

/-! ### A captured request cell -/

/-- The two-byte value at argument i, as bits. -/
def valueAt (args : List Byte) (i : Nat) : BitVec 16 := BitVec.ofNat 16 (wordAt args i)

/-- A PART RESET request by its scope byte (R182): whether it acts when broadcast, and what it does. -/
def partReset (scope : Byte) : Bool × (State → Answer) :=
  match scope.toNat with
  | 0 => (true, msgResetLoop)
  | 1 => (true, msgResetTables)
  | 2 => (false, msgResetFull)
  | _ => (false, refuse .badArgument)

/-- The request of a kind byte and argument bytes (10, section 10.3): whether the kind acts when broadcast
(R170), and its execution. -/
def requestOf (kind : Byte) (args : List Byte) : Bool × (State → Answer) :=
  let arg := fun i => args.getD i 0#8
  match kind.toNat with
  | 1 => (false, msgIdentify)
  | 2 => (false, msgBayRead (arg 0))
  | 3 => (false, msgBayPower (arg 0) (arg 1))
  | 4 => (false, msgBayReset (arg 0))
  | 5 => (false, msgBayClass (arg 0) (arg 1))
  | 6 => (true, msgAttentionClear (arg 0) (arg 1) (arg 2))
  | 7 => (true, msgAttentionMask (arg 0) (arg 1) (arg 2) (arg 3))
  | 8 => (true, msgIndicatorHold (arg 0) (arg 1) (arg 2))
  | 9 => (true, msgBlinkSync)
  | 10 => (false, msgDriveTemperature (arg 0) (valueAt args 1) (valueAt args 3) (valueAt args 5))
  | 11 => (false, msgTableWindow (arg 0) (arg 1) (arg 2))
  | 12 => (false, msgTablePut (arg 0) (args.drop 1))
  | 13 => (false, msgTableGet (arg 0))
  | 14 => (false, msgCurveActivate (arg 0))
  | 15 => (false, msgPowerRead (arg 0))
  | 16 => (false, msgQueueRead (arg 0))
  | 17 => (false, msgFanRead (arg 0))
  | 18 => (false, msgSensorRead (arg 0))
  | 19 => (false, msgZoneRead (arg 0))
  | 20 => partReset (arg 0)
  | _ => (false, msgBadKind)

/-- Hand a captured request cell over: destination, kind, tag, arguments (10, section 10.1). -/
def handCell (cell : List Byte) (s : State) : State :=
  let r := requestOf (cell.getD 1 0#8) (cell.drop 3)
  deliver (cell.getD 0 0#8) (cell.getD 2 0#8) (cell.getD 1 0#8) r.1 r.2 s

/-- The cell is a PART RESET of FULL scope that the part will take: addressed to it, with the reply hold empty
(R182, R185). -/
def takesFullReset (cell : List Byte) (s : State) : Bool :=
  match s.loop.position with
  | some p =>
    decide ((cell.getD 0 0#8).toNat = p.val) && !s.loop.reply.isSome && decide (cell.getD 1 0#8 = 20#8) &&
      decide (cell.getD 3 0#8 = 2#8)
  | none => false

/-! ### The message rows: the hand-over of a request of one kind (log 12) -/

def execIdentify (dst tag : Byte) (s : State) : Out :=
  live s (deliver dst tag 1#8 false msgIdentify)

def execBayRead (dst tag bay : Byte) (s : State) : Out :=
  live s (deliver dst tag 2#8 false (msgBayRead bay))

def execBayPowerOn (dst tag bay : Byte) (s : State) : Out :=
  live s (deliver dst tag 3#8 false (msgIntent .on bay))

def execBayPowerExpedite (dst tag bay : Byte) (s : State) : Out :=
  live s (deliver dst tag 3#8 false (msgExpedite bay))

def execBayPowerOff (dst tag bay : Byte) (s : State) : Out :=
  live s (deliver dst tag 3#8 false (msgIntent .off bay))

def execBayPowerRelease (dst tag bay : Byte) (s : State) : Out :=
  live s (deliver dst tag 3#8 false (msgIntent .none bay))

def execBayPowerCycle (dst tag bay : Byte) (s : State) : Out :=
  live s (deliver dst tag 3#8 false (msgCycle bay))

def execBayPowerClear (dst tag bay : Byte) (s : State) : Out :=
  live s (deliver dst tag 3#8 false (msgClear bay))

def execBayReset (dst tag bay : Byte) (s : State) : Out :=
  live s (deliver dst tag 4#8 false (msgBayReset bay))

def execBayClass (dst tag bay cls : Byte) (s : State) : Out :=
  live s (deliver dst tag 5#8 false (msgBayClass bay cls))

def execAttentionClear (dst tag start stop kinds : Byte) (s : State) : Out :=
  live s (deliver dst tag 6#8 true (msgAttentionClear start stop kinds))

def execAttentionMask (dst tag start stop setMask clearMask : Byte) (s : State) : Out :=
  live s (deliver dst tag 7#8 true (msgAttentionMask start stop setMask clearMask))

def execIndicatorHold (dst tag start stop code : Byte) (s : State) : Out :=
  live s (deliver dst tag 8#8 true (msgIndicatorHold start stop code))

def execIndicatorHoldRelease (dst tag start stop : Byte) (s : State) : Out :=
  live s (deliver dst tag 8#8 true (msgHold start stop none))

def execBlinkSync (dst tag : Byte) (s : State) : Out :=
  live s (deliver dst tag 9#8 true msgBlinkSync)

def execDriveTemperature (dst tag first : Byte) (v0 v1 v2 : BitVec 16) (s : State) : Out :=
  live s (deliver dst tag 10#8 false (msgDriveTemperature first v0 v1 v2))

def execTableWindow (dst tag table start stop : Byte) (s : State) : Out :=
  live s (deliver dst tag 11#8 false (msgTableWindow table start stop))

def execTablePut (dst tag index : Byte) (entry : List Byte) (s : State) : Out :=
  live s (deliver dst tag 12#8 false (msgTablePut index entry))

def execTableGet (dst tag index : Byte) (s : State) : Out :=
  live s (deliver dst tag 13#8 false (msgTableGet index))

def execCurveActivate (dst tag zone : Byte) (s : State) : Out :=
  live s (deliver dst tag 14#8 false (msgCurveActivate zone))

def execPowerRead (dst tag page : Byte) (s : State) : Out :=
  live s (deliver dst tag 15#8 false (msgPowerRead page))

def execQueueRead (dst tag offset : Byte) (s : State) : Out :=
  live s (deliver dst tag 16#8 false (msgQueueRead offset))

def execFanRead (dst tag fan : Byte) (s : State) : Out :=
  live s (deliver dst tag 17#8 false (msgFanRead fan))

def execSensorRead (dst tag channel : Byte) (s : State) : Out :=
  live s (deliver dst tag 18#8 false (msgSensorRead channel))

def execZoneRead (dst tag zone : Byte) (s : State) : Out :=
  live s (deliver dst tag 19#8 false (msgZoneRead zone))

def execPartResetLoop (dst tag : Byte) (s : State) : Out :=
  live s (deliver dst tag 20#8 true msgResetLoop)

def execPartResetTables (dst tag : Byte) (s : State) : Out :=
  live s (deliver dst tag 20#8 true msgResetTables)

def execPartResetFull (dst tag : Byte) (s : State) : Out :=
  live s (deliver dst tag 20#8 false msgResetFull)

end Sys2Proof.Machine
end

