-- ==== Sys2Proof/Machine/Loop.lean ====
section
/-! DEFINITION. The Loop Engine (chapter 7): symbols and forwarding, the receiver, frames, the check, slots, cells,
and the ends of frames. -/

namespace Sys2Proof.Machine

/-! ### Symbols and the frame check -/

/-- The symbol nine bits spell (R148, 10 section 10.1): kind bit 0 a data byte, kind bit 1 a control symbol; an
unlisted control code is received as IDLE. -/
def decodeSymbol (bits : BitVec 9) : LoopSym :=
  let code := bits.setWidth 8
  if bits.getLsbD 8 then
    if code = 0xF1#8 then .frameStart
    else if code = 0xF2#8 then .frameEnd
    else if code = 0xF4#8 then .frameAbort
    else .idle
  else .data code

/-- One bit shifted through the check register, generator x^16 + x^12 + x^5 + 1 (R153). -/
def crcShift (c : BitVec 16) : BitVec 16 := if c.getLsbD 15 then (c <<< 1) ^^^ 0x1021#16 else c <<< 1

/-- One data byte shifted through the check register, most significant bit first (R153). -/
def crcByte (c : BitVec 16) (b : Byte) : BitVec 16 :=
  crcShift (crcShift (crcShift (crcShift (crcShift (crcShift (crcShift (crcShift
    (c ^^^ (b.setWidth 16 <<< 8)))))))))

/-- The high and low byte of a check. -/
def highByte (c : BitVec 16) : Byte := (c >>> 8).setWidth 8
def lowByte (c : BitVec 16) : Byte := c.setWidth 8

/-! ### Sending (R148, R153, R159) -/

/-- The check the part sends: over the bytes it sent, complemented if the incoming check was bad (R153). DESIGN
CHOICE (log 31), safe: where a frame is abandoned right after its first check byte, no check of it has been judged,
and that byte goes out under the judgement of the frame before, which a FRAME START leaves as it was; after a power-on or
pin reset with no check judged yet, as good (log 9). -/
def ownCheck (t : Tx) : BitVec 16 := if t.good then t.crc else ~~~t.crc

/-- The symbol an item of the delay line is sent as, at this moment. -/
def itemSymbol (s : State) : TxItem → LoopSym
  | .sym x => x
  | .status b => .data (s.statusByte b)
  | .checkHigh => .data (highByte (ownCheck s.loop.tx))
  | .checkLow => .data (lowByte (ownCheck s.loop.tx))

/-- The check register over the bytes sent, after an item has been sent as a symbol: it starts at all ones at
the first data byte of the frame, and the check bytes do not enter it (R153). -/
def sentCrc (c : BitVec 16) (item : TxItem) (x : LoopSym) : BitVec 16 :=
  match item with
  | .checkHigh => c
  | .checkLow => c
  | .sym _ | .status _ =>
    match x with
    | .frameStart => 0xFFFF#16
    | .data b => crcByte c b
    | .frameEnd => c
    | .frameAbort => c
    | .idle => c

/-- Send the oldest item of the delay line and take a new one in: every symbol leaves two symbol times after it
arrived (R148). -/
def shift (item : TxItem) (s : State) : State :=
  let t := s.loop.tx
  let x := itemSymbol s t.first
  { s with
    loop :=
      { s.loop with
        sent := x
        tx := { t with first := t.second, second := item, crc := sentCrc t.crc t.first x } } }

/-! ### Receiving (R150 to R152) -/

/-- The frame length in data bytes, known once the slot count has arrived (R151). -/
def Frame.length (f : Frame) : Nat := 36 + 2 * f.slots.toNat

/-- The slot count has arrived (R151). -/
def Frame.lengthKnown (f : Frame) : Bool := 3 ≤ f.count

/-- A frame is abandoned: the whole capture is discarded (R152). -/
def abandon (next : Receiver) (s : State) : State :=
  { s with loop := { s.loop with receiver := next, frame := emptyFrame } }

/-- A FRAME START in BETWEEN: the capture is emptied and the reply marked not placed in this frame (R151). -/
def beginFrame (s : State) : State :=
  { s with loop := { s.loop with receiver := .inFrame, frame := emptyFrame, replyPlaced := false } }

/-- The bay that owns a slot in a frame's map (R157, R159). -/
def ownerOf (map : Vector (Option Nat) 24) (slot : Nat) : Option BayIx :=
  allBays.find? fun b => decide (map.get b = some slot)

/-- The sixteen bytes of a reply cell (R164, 10 section 10.1). -/
def replyBytes (p : Fin 8) (r : Reply) : List Byte := [b8 p.val, r.kind, r.tag, r.result.code] ++ r.data.toList

/-- The reply cell's source byte has arrived (R164): a placed part with a reply fills an empty cell and marks its
reply as placed in this frame. -/
def placeReply (b : Byte) (s : State) : State :=
  match s.loop.position, s.loop.reply with
  | some p, some r =>
    if b = 14#8 then
      { s with
        loop := { s.loop with replyPlaced := true, frame := { s.loop.frame with placing := replyBytes p r } } }
    else s
  | _, _ => s

/-- The first byte of the slot area has arrived: the map in force for the frame is the one that stands now, and
an unplaced part captures and writes nothing (R156, R157). -/
def fixMap (s : State) : State :=
  { s with
    loop :=
      { s.loop with frame := { s.loop.frame with map := if s.placed then s.loop.slotMap else noSlots } } }

/-- The request byte of a slot is captured if a local bay owns the slot (R159). -/
def captureRequest (slot : Nat) (b : Byte) (s : State) : State :=
  match ownerOf s.loop.frame.map slot with
  | some bay =>
    { s with
      loop := { s.loop with frame := { s.loop.frame with requests := s.loop.frame.requests ++ [(bay, b)] } } }
  | none => s

/-- The destination byte of the request cell: the cell is captured at a placed part if it names the part's
position or all parts (R162). -/
def openCell (b : Byte) (s : State) : State :=
  match s.loop.position with
  | some p =>
    if b.toNat = p.val ∨ b = 15#8 then
      { s with loop := { s.loop with frame := { s.loop.frame with cell := some [b] } } }
    else s
  | none => s

/-- A further byte of the request cell. -/
def growCell (b : Byte) (s : State) : State :=
  { s with loop := { s.loop with frame := { s.loop.frame with cell := s.loop.frame.cell.map (· ++ [b]) } } }

/-- What data byte n of a frame does at the part (R151, R153, R157, R159, R162, R164). -/
def captureByte (n : Nat) (b : Byte) (s : State) : State :=
  let f := s.loop.frame
  let slotsEnd := 19 + 2 * f.slots.toNat
  if n = 0 then { s with loop := { s.loop with frame := { f with flags := b } } }
  else if n = 1 then { s with loop := { s.loop with frame := { f with hop := b } } }
  else if n = 2 then { s with loop := { s.loop with frame := { f with slots := b } } }
  else if n = 3 then placeReply b s
  else if n < 19 then s
  else if n < slotsEnd then
    let s := if n = 19 then fixMap s else s
    if n % 2 = 1 then captureRequest ((n - 19) / 2) b s else s
  else if n = slotsEnd then openCell b s
  else if n < slotsEnd + 15 then growCell b s
  else if n = slotsEnd + 15 then { s with loop := { s.loop with frame := { f with checkHigh := b } } }
  else
    { s with
      loop := { s.loop with tx := { s.loop.tx with good := decide (f.checkHigh ++ b = f.crc) } } }

/-- What data byte n is forwarded as, the capture of the byte having been made (R154, R159, R164, R153). -/
def forwardItem (n : Nat) (b : Byte) (s : State) : TxItem :=
  let f := s.loop.frame
  let slotsEnd := 19 + 2 * f.slots.toNat
  if n = 1 then .sym (.data (if b = 255#8 then b else b + 1#8))
  else if n < 3 then .sym (.data b)
  else if n < 19 then .sym (.data (f.placing.getD (n - 3) b))
  else if n < slotsEnd then
    if n % 2 = 0 then
      match ownerOf f.map ((n - 20) / 2) with
      | some bay => .status bay
      | none => .sym (.data b)
    else .sym (.data b)
  else if n < slotsEnd + 15 then .sym (.data b)
  else if n = slotsEnd + 15 then .checkHigh
  else .checkLow

/-- Count a data byte, and shift it through the check register unless it is a check byte (R153). -/
def countByte (n : Nat) (b : Byte) (s : State) : State :=
  let f := s.loop.frame
  let checked := n < 3 || decide (n < 34 + 2 * f.slots.toNat)
  { s with loop := { s.loop with frame := { f with count := n + 1, crc := if checked then crcByte f.crc b else f.crc } } }

/-- A data byte within the frame length. -/
def frameByte (b : Byte) (s : State) : TxItem × State :=
  let n := s.loop.frame.count
  let s := captureByte n b s
  (forwardItem n b s, countByte n b s)

/-- A FRAME END at exactly the frame length: the frame ends, good or bad by its check (R150, R153). -/
def endFrame (s : State) : State :=
  { s with loop := { s.loop with receiver := .between, frameEnd := some s.loop.tx.good } }

/-- The receiver's table (R150): what is sent for a received symbol, and the state after it. -/
def receive (x : LoopSym) (s : State) : TxItem × State :=
  match s.loop.receiver with
  | .between =>
    match x with
    | .frameStart => (.sym .frameStart, beginFrame s)
    | .idle | .data _ | .frameEnd | .frameAbort => (.sym .idle, s)
  | .inFrame =>
    match x with
    | .data b =>
      if s.loop.frame.lengthKnown && decide (s.loop.frame.length ≤ s.loop.frame.count) then
        (.sym .frameAbort, abandon .discard s)
      else frameByte b s
    | .frameEnd =>
      if s.loop.frame.lengthKnown && decide (s.loop.frame.count = s.loop.frame.length) then
        (.sym .frameEnd, endFrame s)
      else (.sym .frameAbort, abandon .between s)
    | .frameAbort => (.sym .frameAbort, abandon .between s)
    | .idle => (.sym .frameAbort, abandon .between s)
    | .frameStart => (.sym .frameAbort, abandon .discard s)
  | .discard =>
    match x with
    | .idle => (.sym .idle, { s with loop := { s.loop with receiver := .between } })
    | .data _ | .frameStart | .frameEnd | .frameAbort => (.sym .idle, s)

/-! ### The end of a frame (R155, R160, R161, R163) -/

/-- Step 1: a reply placed in this frame is released (R165). -/
def releaseReply (s : State) : State :=
  if s.loop.replyPlaced then { s with loop := { s.loop with reply := none, replyPlaced := false } } else s

/-- One request byte (R143, R161): if valid, its indicator code is taken, and its power intent, where it differs
from the one held, is taken and the desire evaluated. -/
def applyRequest (w : Work) (q : BayIx × Byte) : Work :=
  if requestValid q.2 then
    let w := w.map fun s => s.setBayLights q.1 { s.bayLights q.1 with loopCode := requestCode q.2 }
    let x := w.st.bay q.1
    if x.loopIntent = requestIntent q.2 then w
    else evaluate q.1 (w.setBay q.1 { x with loopIntent := requestIntent q.2 })
  else w

/-- Step 2: the pending requests, one event with one admission attempt (R161). -/
def applyRequests (s : State) : State := event (fun w => s.loop.frame.requests.foldl applyRequest w) s

/-- Step 3: a captured request cell is handed to the Message Unit (R162). -/
def executeCell (s : State) : State :=
  match s.loop.frame.cell with
  | some c => handCell c s
  | none => s

/-- The cell captured in this frame makes the part take a full reset at step 3 (R185). -/
def fullResetTaken (s : State) : Bool :=
  match s.loop.frame.cell with
  | some c => takesFullReset c s
  | none => false

/-- Step 4: the loop timer restarts at the loop timeout, and LOOP_LOST becomes false (R166). -/
def restartTimer (s : State) : State :=
  { s with loop := { s.loop with timer := s.loop.timeout * 100, lost := false } }

/-- Step 5: at a TRAINING frame (flags bit 7) the position is latched from the hop count received; a change
resolves the slot map again (R155). -/
def latchPosition (flags hop : Byte) (s : State) : State :=
  if flags.getLsbD 7 then
    let p : Option (Fin 8) := if h : hop.toNat < 8 then some ⟨hop.toNat, h⟩ else none
    if s.loop.position = p then s else resolveMap { s with loop := { s.loop with position := p } }
  else s

/-- Steps 1 to 3, at a placed part. -/
def placedEnd (s : State) : State := executeCell (applyRequests (releaseReply s))

/-- A good frame end (R160): five steps at a placed part, the last two at an unplaced one; a FULL-scope reset
replaces the steps after it (R185). DEDUCED (log 33), unsafe: where a TRAINING frame carries a PART RESET of LOOP scope,
its own step 5 comes after the reset and latches the position again. -/
def goodEnd (s : State) : State :=
  let f := s.loop.frame
  let s := { s with loop := { s.loop with frameEnd := none } }
  if s.placed then
    if fullResetTaken (applyRequests (releaseReply s)) then placedEnd s
    else latchPosition f.flags f.hop (restartTimer (placedEnd s))
  else latchPosition f.flags f.hop (restartTimer s)

/-- A frame end with a bad check (R163): the capture is discarded and nothing else happens. -/
def badEnd (s : State) : State :=
  { s with loop := { s.loop with frameEnd := none, frame := emptyFrame } }

/-- Take a frame end that has come about and has not been taken (log 11). -/
def takeFrameEnd (s : State) : State :=
  match s.loop.frameEnd with
  | some true => goodEnd s
  | some false => badEnd s
  | none => s

/-- GOOD_FRAME_END. -/
def execGoodFrameEnd (s : State) : Out :=
  live s fun s => if s.loop.frameEnd = some true then goodEnd s else s

/-- BAD_CHECK_FRAME_END. -/
def execBadCheckFrameEnd (s : State) : Out :=
  live s fun s => if s.loop.frameEnd = some false then badEnd s else s

/-! ### The symbol and clock events -/

/-- One received symbol, the end of an earlier frame having been taken: the oldest symbol is sent, and the new
one enters the delay line as R150 and the rewrites give. -/
def takeSymbol (x : LoopSym) (s : State) : State :=
  let s := takeFrameEnd s
  let r := receive x s
  shift r.1 r.2

/-- LOOP_SYMBOL: no symbol arrives while the loop clock is stopped (R149); a part held in reset sends IDLE at
every symbol time (R187). -/
def execLoopSymbol (bits : BitVec 9) (s : State) : Out :=
  if !s.loop.clock then .next s
  else if s.inReset then .next { s with loop := { s.loop with sent := .idle } }
  else .next (takeSymbol (decodeSymbol bits) s)

/-- LOOP_BREAK (R149, R152): a frame in progress is abandoned without a FRAME ABORT, the output clock stops with
the input clock, and what would be sent until the first IDLE arrives is IDLE (log 9). -/
def breakLoop (s : State) : State :=
  let s := if s.loop.receiver = .inFrame then abandon .discard s else s
  { s with
    loop :=
      { s.loop with
        receiver := .discard, clock := false
        tx := { s.loop.tx with first := .sym .idle, second := .sym .idle } } }

def execLoopBreak (s : State) : Out :=
  if s.inReset then .next { s with loop := { s.loop with clock := false } }
  else .next (breakLoop (takeFrameEnd s))

/-- LOOP_CLOCK_RETURN (R149): the receiver starts in DISCARD. -/
def execLoopClockReturn (s : State) : Out :=
  if s.loop.clock then .next s
  else .next { s with loop := { s.loop with clock := true, receiver := .discard } }

/-! ### The loop timer (R166) -/

/-- The loop timer has run out and LOOP_LOST has not become true yet. -/
def loopTimerDue (s : State) : Bool := decide (s.loop.timer = 0) && !s.loop.lost

def takeLoopTimer (s : State) : State := { s with loop := { s.loop with lost := true } }

/-- LOOP_TIMER_EXPIRY. -/
def execLoopTimerExpiry (s : State) : Out := live s fun s => if loopTimerDue s then takeLoopTimer s else s

end Sys2Proof.Machine
end

