-- ==== Sys2Proof/Machine/Tick.lean ====
section
/-! DEFINITION. The Timebase tick (R1): what is left of the tick before, the scan of the bay I/O chain, the count of
every duration, and the resolution of the lights. -/

namespace Sys2Proof.Machine

/-! ### What is left of the tick before (log 2) -/

/-- Take the events of the tick under way that have come about and have not been taken, in the order of the
opcode table, but for the frame end, which comes first, a stretch expiry, which comes before the edge of the same
tick (as in 06, section 6.10), and a late resolution of the lights, which comes last. -/
def completeTick (s : State) : State :=
  let s := takeFrameEnd s
  let s := forBays presenceActiveDue takePresenceActive s
  let s := forBays presenceLossDue takePresenceLoss s
  let s := forBays powerGoodSeenDue takePowerGoodSeen s
  let s := forBays powerGoodLostDue takePowerGoodLost s
  let s := forBays switchFaultDue takeSwitchFault s
  let s := forBays stretchDue takeStretch s
  let s := forBays edgeDue takeEdge s
  let s := takeExpiries s
  let s := forBays surgeDeadlineDue takeSurgeDeadline s
  let s := forBays pgDeadlineDue takePgDeadline s
  let s := forBays resetHoldDue takeResetHold s
  let s := if boundaryDue s then takeBoundary s else s
  let s := if coolingDue s then takeCooling s else s
  let s := if s.scan.slotDue then takeConversion s else s
  let s := forBays staleDue takeStale s
  let s := if loopTimerDue s then takeLoopTimer s else s
  if s.ind.resolutionDue then resolveLights s else s

/-! ### The scan of the bay I/O chain (R1, R4, R10, R129, R134) -/

/-- The outputs this scan puts on the backplane: levels by the bay records as they stand, the lights as resolved
at the tick before; the fans take their applied duties, and 25 PWM periods of 255 counts pass in a tick (R116). -/
def scanOutputs (s : State) : Outputs where
  powerEnable := Vector.ofFn fun b => s.populated b && (s.bay b).powered
  driveReset := Vector.ofFn fun b => s.populated b && (s.bay b).resetAsserted
  lights := s.ind.levels
  pwm := Vector.ofFn fun f => (s.fan f).applied
  pwmCounter := (s.io.out.pwmCounter + 25 * 255) % 255

/-- The level of a fan's PWM output at a count of its period counter (R116). -/
def pwmHigh (duty counter : Nat) : Bool := decide (counter < duty)

/-- A bay's record after a scan and one more tick: power-good and switch-fault are looked at in SURGE and RUN
(R18), and its timers count down. -/
def Bay.tick (x : Bay) : Bay :=
  { x with
    lookPg := x.powered
    lookSf := x.powered
    debounce := x.debounce.map (· - 1)
    drain := x.drain - 1
    drainDue := x.drainDue || x.drain == 1
    resetHold := x.resetHold.map (· - 1) }

/-- What the Indicator Unit keeps of a bay after a scan and one more tick: a rising edge of the activity input is
noted, and the stretch timer counts down (R134). -/
def BayLights.tick (x : BayLights) (edge : Bool) : BayLights := { x with edgeDue := edge, timer := x.timer - 1 }

/-- A present temperature record ages by one, up to 65535 (R100). -/
def TempRec.tick (x : TempRec) : TempRec := { x with age := min 65535 (x.age + 1) }

/-- A rising edge of bay b's activity input between the scan before and this one; the first scan after a full
reset counts none (R134). -/
def activityEdge (s : State) (pins : Pins) (b : BayIx) : Bool :=
  s.populated b && !s.io.firstScan && !(s.seen b).activity && (pins.bays.get b).activity

/-- The scan and the count of every duration at one tick (R1). -/
def countTick (pins : Pins) (s : State) : State :=
  { s with
    time := { now := s.time.now + 1 }
    io := { pins := pins, firstScan := false, out := scanOutputs s }
    sup := { s.sup with bays := Vector.ofFn fun b => (s.bay b).tick }
    scan :=
      { s.scan with
        slotDue := (s.time.now + 1) % 2 == 0
        temps := Vector.ofFn fun b => (s.temp b).map TempRec.tick }
    ind := { s.ind with bays := Vector.ofFn fun b => (s.bayLights b).tick (activityEdge s pins b) }
    loop := { s.loop with timer := s.loop.timer - 1 } }

/-- The resolution of this tick, taken now or left to the end of the tick's events (R138). -/
def tickLights (order : LightsOrder) (s : State) : State :=
  match order with
  | .beforeEvents => resolveLights s
  | .afterEvents => { s with ind := { s.ind with resolutionDue := true } }

/-- One tick of a part that is not held. The first resolution after a full reset is taken before the events of its
tick, whatever the order asked for: at it every bay is EMPTY (R146; log 4). -/
def tick (pins : Pins) (order : LightsOrder) (s : State) : State :=
  let u := completeTick s
  tickLights (if u.io.firstScan then .beforeEvents else order) (countTick pins u)

/-- TIMEBASE_TICK: a part held in reset counts nothing and keeps its outputs off; its pins move on (R187). -/
def execTimebaseTick (pins : Pins) (lights : LightsOrder) (s : State) : Out :=
  if s.inReset then .next { s with io := { s.io with pins := pins } }
  else .next (tick pins lights s)

end Sys2Proof.Machine
end

