-- ==== Sys2Proof/Machine/Dispatch.lean ====
section
/-! DEFINITION. One arm per command: the meaning each one has. -/

namespace Sys2Proof.Machine

def exec (i : Instr) (s : State) : Host.Outcome State Fault Refusal :=
  match i with
  | .timebaseTick pins lights => Sys2Proof.Machine.execTimebaseTick pins lights s
  | .presenceActive bay => Sys2Proof.Machine.execPresenceActive bay s
  | .presenceLoss bay => Sys2Proof.Machine.execPresenceLoss bay s
  | .powerGoodSeen bay => Sys2Proof.Machine.execPowerGoodSeen bay s
  | .powerGoodLost bay => Sys2Proof.Machine.execPowerGoodLost bay s
  | .switchFault bay => Sys2Proof.Machine.execSwitchFault bay s
  | .driveActivityEdge bay => Sys2Proof.Machine.execDriveActivityEdge bay s
  | .tachPulse fan => Sys2Proof.Machine.execTachPulse fan s
  | .debounceExpiry bay => Sys2Proof.Machine.execDebounceExpiry bay s
  | .drainExpiry bay => Sys2Proof.Machine.execDrainExpiry bay s
  | .surgeDeadline bay => Sys2Proof.Machine.execSurgeDeadline bay s
  | .powerGoodDeadline bay => Sys2Proof.Machine.execPowerGoodDeadline bay s
  | .resetHoldExpiry bay => Sys2Proof.Machine.execResetHoldExpiry bay s
  | .staggerBoundary => Sys2Proof.Machine.execStaggerBoundary s
  | .coolingUpdate => Sys2Proof.Machine.execCoolingUpdate s
  | .conversionEnd => Sys2Proof.Machine.execConversionEnd s
  | .temperatureStale bay => Sys2Proof.Machine.execTemperatureStale bay s
  | .loopTimerExpiry => Sys2Proof.Machine.execLoopTimerExpiry s
  | .activityStretchExpiry bay => Sys2Proof.Machine.execActivityStretchExpiry bay s
  | .loopSymbol bits => Sys2Proof.Machine.execLoopSymbol bits s
  | .goodFrameEnd => Sys2Proof.Machine.execGoodFrameEnd s
  | .badCheckFrameEnd => Sys2Proof.Machine.execBadCheckFrameEnd s
  | .loopBreak => Sys2Proof.Machine.execLoopBreak s
  | .loopClockReturn => Sys2Proof.Machine.execLoopClockReturn s
  | .identify dst tag => Sys2Proof.Machine.execIdentify dst tag s
  | .bayRead dst tag bay => Sys2Proof.Machine.execBayRead dst tag bay s
  | .bayPowerOn dst tag bay => Sys2Proof.Machine.execBayPowerOn dst tag bay s
  | .bayPowerExpedite dst tag bay => Sys2Proof.Machine.execBayPowerExpedite dst tag bay s
  | .bayPowerOff dst tag bay => Sys2Proof.Machine.execBayPowerOff dst tag bay s
  | .bayPowerRelease dst tag bay => Sys2Proof.Machine.execBayPowerRelease dst tag bay s
  | .bayPowerCycle dst tag bay => Sys2Proof.Machine.execBayPowerCycle dst tag bay s
  | .bayPowerClear dst tag bay => Sys2Proof.Machine.execBayPowerClear dst tag bay s
  | .bayReset dst tag bay => Sys2Proof.Machine.execBayReset dst tag bay s
  | .bayClass dst tag bay cls => Sys2Proof.Machine.execBayClass dst tag bay cls s
  | .attentionClear dst tag start stop kinds => Sys2Proof.Machine.execAttentionClear dst tag start stop kinds s
  | .attentionMask dst tag start stop setMask clearMask => Sys2Proof.Machine.execAttentionMask dst tag start stop setMask clearMask s
  | .indicatorHold dst tag start stop code => Sys2Proof.Machine.execIndicatorHold dst tag start stop code s
  | .indicatorHoldRelease dst tag start stop => Sys2Proof.Machine.execIndicatorHoldRelease dst tag start stop s
  | .blinkSync dst tag => Sys2Proof.Machine.execBlinkSync dst tag s
  | .driveTemperature dst tag first v0 v1 v2 => Sys2Proof.Machine.execDriveTemperature dst tag first v0 v1 v2 s
  | .tableWindow dst tag table start stop => Sys2Proof.Machine.execTableWindow dst tag table start stop s
  | .tablePut dst tag index entry => Sys2Proof.Machine.execTablePut dst tag index entry s
  | .tableGet dst tag index => Sys2Proof.Machine.execTableGet dst tag index s
  | .curveActivate dst tag zone => Sys2Proof.Machine.execCurveActivate dst tag zone s
  | .powerRead dst tag page => Sys2Proof.Machine.execPowerRead dst tag page s
  | .queueRead dst tag offset => Sys2Proof.Machine.execQueueRead dst tag offset s
  | .fanRead dst tag fan => Sys2Proof.Machine.execFanRead dst tag fan s
  | .sensorRead dst tag channel => Sys2Proof.Machine.execSensorRead dst tag channel s
  | .zoneRead dst tag zone => Sys2Proof.Machine.execZoneRead dst tag zone s
  | .partResetLoop dst tag => Sys2Proof.Machine.execPartResetLoop dst tag s
  | .partResetTables dst tag => Sys2Proof.Machine.execPartResetTables dst tag s
  | .partResetFull dst tag => Sys2Proof.Machine.execPartResetFull dst tag s
  | .powerOnReset => Sys2Proof.Machine.execPowerOnReset s
  | .resetPin => Sys2Proof.Machine.execResetPin s
  | .resetTriggerEnd trigger => Sys2Proof.Machine.execResetTriggerEnd trigger s

end Sys2Proof.Machine
end

