-- ==== Sys2Proof/WellFormed.lean ====
section
/-! DEFINITION. Which commands can arrive: a line the part has, an entry that fits its cell, a hold code that
is not the release. Any byte may stand in the other places of a message. -/

namespace Sys2Proof

/-- A bay line of the part (24 bays, R2). -/
def isBayLine (bay : Nat) : Bool := bay < 24

/-- A fan line of the part (8 fans, R117). -/
def isFanLine (fan : Nat) : Bool := fan < 8

/-- The check of a command's operands. -/
def Instr.wellFormed : Instr → Bool
  | .timebaseTick _ _ => true
  | .presenceActive bay => isBayLine bay
  | .presenceLoss bay => isBayLine bay
  | .powerGoodSeen bay => isBayLine bay
  | .powerGoodLost bay => isBayLine bay
  | .switchFault bay => isBayLine bay
  | .driveActivityEdge bay => isBayLine bay
  | .tachPulse fan => isFanLine fan
  | .debounceExpiry bay => isBayLine bay
  | .drainExpiry bay => isBayLine bay
  | .surgeDeadline bay => isBayLine bay
  | .powerGoodDeadline bay => isBayLine bay
  | .resetHoldExpiry bay => isBayLine bay
  | .staggerBoundary => true
  | .coolingUpdate => true
  | .conversionEnd => true
  | .temperatureStale bay => isBayLine bay
  | .loopTimerExpiry => true
  | .activityStretchExpiry bay => isBayLine bay
  | .loopSymbol _ => true
  | .goodFrameEnd => true
  | .badCheckFrameEnd => true
  | .loopBreak => true
  | .loopClockReturn => true
  | .identify _ _ => true
  | .bayRead _ _ _ => true
  | .bayPowerOn _ _ _ => true
  | .bayPowerExpedite _ _ _ => true
  | .bayPowerOff _ _ _ => true
  | .bayPowerRelease _ _ _ => true
  | .bayPowerCycle _ _ _ => true
  | .bayPowerClear _ _ _ => true
  | .bayReset _ _ _ => true
  | .bayClass _ _ _ _ => true
  | .attentionClear _ _ _ _ _ => true
  | .attentionMask _ _ _ _ _ _ => true
  | .indicatorHold _ _ _ _ code => code != 255#8
  | .indicatorHoldRelease _ _ _ _ => true
  | .blinkSync _ _ => true
  | .driveTemperature _ _ _ _ _ _ => true
  | .tableWindow _ _ _ _ _ => true
  | .tablePut _ _ _ entry => entry.length ≤ 11
  | .tableGet _ _ _ => true
  | .curveActivate _ _ _ => true
  | .powerRead _ _ _ => true
  | .queueRead _ _ _ => true
  | .fanRead _ _ _ => true
  | .sensorRead _ _ _ => true
  | .zoneRead _ _ _ => true
  | .partResetLoop _ _ => true
  | .partResetTables _ _ => true
  | .partResetFull _ _ => true
  | .powerOnReset => true
  | .resetPin => true
  | .resetTriggerEnd _ => true

end Sys2Proof
end

