-- ==== Sys2Proof/Safety.lean ====
section
/-! DEFINITION. What counts as a safe run, in the terms the statements use: who is addressed, which bays and
commands a rule speaks of, and the invariants of the part. -/

namespace Sys2Proof.Safety

open Sys2Proof.Machine

/-! ### Conditions on a state and operands -/

/-- The part is not held in reset and bay b is populated: its inputs and timers are looked at (R3, R187). -/
abbrev BayLive (s : State) (b : BayIx) : Prop := s.inReset = false ∧ s.populated b = true

/-- A request cell with this destination is addressed to the part, which can take and answer it: the part is not
held, it holds the position the destination names, and its reply hold is empty (R162). -/
abbrev Takes (s : State) (dst : Byte) : Prop :=
  s.inReset = false ∧ s.loop.position.map (·.val) = some dst.toNat ∧ s.loop.reply = none

/-- The part with a reply in its reply hold, ready for the next frame (R164, R168). -/
def answered (s : State) (kind tag : Byte) (result : Result) (data : List Byte) : State :=
  { s with loop := { s.loop with reply := some ⟨kind, tag, result, dataBytes data⟩, replyPlaced := false } }

/-- The commands that act on the part as a whole or on one bay or fan only while the part is not held in reset:
all but the tick, the loop symbol and clock events, and the reset triggers (R187). -/
def needsRelease : Instr → Bool
  | .timebaseTick _ _ => false
  | .loopSymbol _ => false
  | .loopBreak => false
  | .loopClockReturn => false
  | .powerOnReset => false
  | .resetPin => false
  | .resetTriggerEnd _ => false
  | .presenceActive _ | .presenceLoss _ | .powerGoodSeen _ | .powerGoodLost _ | .switchFault _ => true
  | .driveActivityEdge _ | .tachPulse _ | .debounceExpiry _ | .drainExpiry _ | .surgeDeadline _ => true
  | .powerGoodDeadline _ | .resetHoldExpiry _ | .staggerBoundary | .coolingUpdate | .conversionEnd => true
  | .temperatureStale _ | .loopTimerExpiry | .activityStretchExpiry _ => true
  | .goodFrameEnd | .badCheckFrameEnd => true
  | .identify _ _ | .bayRead _ _ _ | .bayPowerOn _ _ _ | .bayPowerExpedite _ _ _ | .bayPowerOff _ _ _ => true
  | .bayPowerRelease _ _ _ | .bayPowerCycle _ _ _ | .bayPowerClear _ _ _ | .bayReset _ _ _ => true
  | .bayClass _ _ _ _ | .attentionClear _ _ _ _ _ | .attentionMask _ _ _ _ _ _ => true
  | .indicatorHold _ _ _ _ _ | .indicatorHoldRelease _ _ _ _ | .blinkSync _ _ => true
  | .driveTemperature _ _ _ _ _ _ | .tableWindow _ _ _ _ _ | .tablePut _ _ _ _ | .tableGet _ _ _ => true
  | .curveActivate _ _ _ | .powerRead _ _ _ | .queueRead _ _ _ | .fanRead _ _ _ | .sensorRead _ _ _ => true
  | .zoneRead _ _ _ | .partResetLoop _ _ | .partResetTables _ _ | .partResetFull _ _ => true

/-- The bay line an event command names. -/
def bayLine : Instr → Option Nat
  | .presenceActive b | .presenceLoss b | .powerGoodSeen b | .powerGoodLost b | .switchFault b => some b
  | .driveActivityEdge b | .debounceExpiry b | .drainExpiry b | .surgeDeadline b => some b
  | .powerGoodDeadline b | .resetHoldExpiry b | .temperatureStale b | .activityStretchExpiry b => some b
  | .timebaseTick _ _ | .tachPulse _ | .staggerBoundary | .coolingUpdate | .conversionEnd => none
  | .loopTimerExpiry | .loopSymbol _ | .goodFrameEnd | .badCheckFrameEnd | .loopBreak => none
  | .loopClockReturn | .identify _ _ | .bayRead _ _ _ | .bayPowerOn _ _ _ | .bayPowerExpedite _ _ _ => none
  | .bayPowerOff _ _ _ | .bayPowerRelease _ _ _ | .bayPowerCycle _ _ _ | .bayPowerClear _ _ _ => none
  | .bayReset _ _ _ | .bayClass _ _ _ _ | .attentionClear _ _ _ _ _ | .attentionMask _ _ _ _ _ _ => none
  | .indicatorHold _ _ _ _ _ | .indicatorHoldRelease _ _ _ _ | .blinkSync _ _ => none
  | .driveTemperature _ _ _ _ _ _ | .tableWindow _ _ _ _ _ | .tablePut _ _ _ _ | .tableGet _ _ _ => none
  | .curveActivate _ _ _ | .powerRead _ _ _ | .queueRead _ _ _ | .fanRead _ _ _ | .sensorRead _ _ _ => none
  | .zoneRead _ _ _ | .partResetLoop _ _ | .partResetTables _ _ | .partResetFull _ _ => none
  | .powerOnReset | .resetPin | .resetTriggerEnd _ => none

/-- The destination byte of a message command. -/
def destination : Instr → Option Byte
  | .identify d _ | .bayRead d _ _ | .bayPowerOn d _ _ | .bayPowerExpedite d _ _ | .bayPowerOff d _ _ => some d
  | .bayPowerRelease d _ _ | .bayPowerCycle d _ _ | .bayPowerClear d _ _ | .bayReset d _ _ => some d
  | .bayClass d _ _ _ | .attentionClear d _ _ _ _ | .attentionMask d _ _ _ _ _ => some d
  | .indicatorHold d _ _ _ _ | .indicatorHoldRelease d _ _ _ | .blinkSync d _ => some d
  | .driveTemperature d _ _ _ _ _ | .tableWindow d _ _ _ _ | .tablePut d _ _ _ | .tableGet d _ _ => some d
  | .curveActivate d _ _ | .powerRead d _ _ | .queueRead d _ _ | .fanRead d _ _ | .sensorRead d _ _ => some d
  | .zoneRead d _ _ | .partResetLoop d _ | .partResetTables d _ | .partResetFull d _ => some d
  | .timebaseTick _ _ | .presenceActive _ | .presenceLoss _ | .powerGoodSeen _ | .powerGoodLost _ => none
  | .switchFault _ | .driveActivityEdge _ | .tachPulse _ | .debounceExpiry _ | .drainExpiry _ => none
  | .surgeDeadline _ | .powerGoodDeadline _ | .resetHoldExpiry _ | .staggerBoundary => none
  | .coolingUpdate | .conversionEnd | .temperatureStale _ | .loopTimerExpiry => none
  | .activityStretchExpiry _ | .loopSymbol _ | .goodFrameEnd | .badCheckFrameEnd | .loopBreak => none
  | .loopClockReturn | .powerOnReset | .resetPin | .resetTriggerEnd _ => none

/-- The messages that act when broadcast (R170). -/
def actsWhenBroadcast : Instr → Bool
  | .blinkSync _ _ | .attentionClear _ _ _ _ _ | .attentionMask _ _ _ _ _ _ => true
  | .indicatorHold _ _ _ _ _ | .indicatorHoldRelease _ _ _ _ => true
  | .partResetTables _ _ | .partResetLoop _ _ => true
  | .timebaseTick _ _ | .presenceActive _ | .presenceLoss _ | .powerGoodSeen _ | .powerGoodLost _ => false
  | .switchFault _ | .driveActivityEdge _ | .tachPulse _ | .debounceExpiry _ | .drainExpiry _ => false
  | .surgeDeadline _ | .powerGoodDeadline _ | .resetHoldExpiry _ | .staggerBoundary => false
  | .coolingUpdate | .conversionEnd | .temperatureStale _ | .loopTimerExpiry => false
  | .activityStretchExpiry _ | .loopSymbol _ | .goodFrameEnd | .badCheckFrameEnd | .loopBreak => false
  | .loopClockReturn | .identify _ _ | .bayRead _ _ _ | .bayPowerOn _ _ _ | .bayPowerExpedite _ _ _ => false
  | .bayPowerOff _ _ _ | .bayPowerRelease _ _ _ | .bayPowerCycle _ _ _ | .bayPowerClear _ _ _ => false
  | .bayReset _ _ _ | .bayClass _ _ _ _ | .driveTemperature _ _ _ _ _ _ | .tableWindow _ _ _ _ _ => false
  | .tablePut _ _ _ _ | .tableGet _ _ _ | .curveActivate _ _ _ | .powerRead _ _ _ => false
  | .queueRead _ _ _ | .fanRead _ _ _ | .sensorRead _ _ _ | .zoneRead _ _ _ | .partResetFull _ _ => false
  | .powerOnReset | .resetPin | .resetTriggerEnd _ => false

/-- t is s after some admissions of queued bays (R61): their records and the queue entries they held, and the
count of staged admissions, are all that can differ. -/
structure OnlyAdmits (s t : State) : Prop where
  sched :
    t.sched = { s.sched with queue := t.sched.queue, admissions := t.sched.admissions }
  sup : t.sup = { s.sup with bays := t.sup.bays }
  queue : t.sched.queue.Sublist s.sched.queue
  admissions : s.sched.admissions ≤ t.sched.admissions
  bay : ∀ b : BayIx, t.bay b = s.bay b ∨
    ((s.bay b).state = .queued ∧ ∃ c, s.classOf b = some c ∧ t.bay b = admitted s c (s.bay b))
  rest : t = { s with sup := t.sup, sched := t.sched }

/-! ### What the rules make of one bay's record -/

/-- Entry to EMPTY (R2, R13, R29, R30). -/
def emptied (x : Bay) : Bay :=
  { x with
    state := .empty, cls := .unresolved, cause := .none, retries := 0, debounce := none, removed := false
    mgmtIntent := .none, expedite := false }

/-- Entry to SETTLING with the debounce timer at an interval in ms (R10, R25). -/
def startSettling (interval : Nat) (x : Bay) : Bay :=
  { x with state := .settling, cls := .unresolved, cause := .none, removed := false, debounce := some interval }

/-- Power removal with the drain timer at an interval in ms (R23): POWER is raised, and what exists in SURGE or RUN
alone is gone (R2). -/
def unpowered (interval : Nat) (x : Bay) : Bay :=
  { x with
    drain := interval, drainDue := false, spin := none, resetHold := none, lookPg := false, lookSf := false
    attn := { x.attn with power := true } }

/-- Entry to FAULT (R26). -/
def faulted (cause : FaultCause) (x : Bay) : Bay :=
  { x with state := .fault, cause := cause, debounce := none, attn := { x.attn with fault := true } }

/-- Entry to RUN with a class reset hold in steps of 10 ms (R20). -/
def startRunning (hold : Nat) (x : Bay) : Bay :=
  { x with
    state := .run, spin := none, resetHold := if hold = 0 then none else some (hold * 10)
    attn := { x.attn with power := true } }

/-- The desire of a bay with this record under a power policy (R12). -/
def wants (policy : Policy) (x : Bay) : Bool :=
  match x.mgmtIntent, x.loopIntent with
  | .on, _ => true
  | .off, _ => false
  | .none, .on => true
  | .none, .onExpedite => true
  | .none, .off => false
  | .none, .follow => policy = .auto

/-- The expedite flag after the desire has been evaluated (R12, R13). -/
def evaluated (x : Bay) : Bay :=
  { x with expedite := x.expedite || (x.mgmtIntent = .none && x.loopIntent = .onExpedite) }

/-! ### What the rules make of the part -/

/-- The state u that the changes of an event at s come to, with the admission attempt that a fall of the
committed draw makes (R67). -/
def settled (s u : State) : State := if u.committed < s.committed then attempt u else u

/-- Bay b withdrawn from the queue (R47). -/
def withdrawn (b : BayIx) (s : State) : State :=
  { s with sched := { s.sched with queue := s.sched.queue.filter (· ≠ b) } }

/-- Bay b at the tail of the queue (R45). -/
def atTail (b : BayIx) (s : State) : State :=
  { s with sched := { s.sched with queue := s.sched.queue ++ [b] } }

/-- Bay b at the head of the queue, wherever it stood before (R46, R48). -/
def atHead (b : BayIx) (s : State) : State :=
  { s with sched := { s.sched with queue := b :: s.sched.queue.filter (· ≠ b) } }

/-- Entry to QUEUED with record x, and the attempt that follows (R14, R45, R46). -/
def enqueued (s : State) (b : BayIx) (x : Bay) : State :=
  if x.expedite then attempt (atHead b (s.setBay b { x with state := .queued, expedite := false }))
  else attempt (atTail b (s.setBay b { x with state := .queued }))

/-- A powered bay b, with record x but for the removal, goes to DRAIN (R19, R23). -/
def drained (s : State) (b : BayIx) (x : Bay) : State :=
  settled s ((s.setBay b { unpowered s.sup.drainSetting x with state := .drain }).setTemp b none)

/-- A powered bay b goes to FAULT (R23, R26). -/
def faultedPowered (s : State) (b : BayIx) (cause : FaultCause) : State :=
  settled s ((s.setBay b (faulted cause (unpowered s.sup.drainSetting (s.bay b)))).setTemp b none)

/-- The desire of bay b, evaluated with record x and acted on in its state (R12, R14, R15, R19). -/
def obeyed (s : State) (b : BayIx) (x : Bay) : State :=
  match x.state with
  | .idle =>
    match x.cls with
    | .cls c =>
      if wants (s.bayCfg b).policy x then
        if (s.acct.ceiling : Int) - s.acct.guardBand < (s.driveClass c).surge then
          s.setBay b (faulted .budget (evaluated x))
        else enqueued s b (evaluated x)
      else s.setBay b (evaluated x)
    | .blank => s.setBay b (evaluated x)
    | .unresolved => s.setBay b (evaluated x)
  | .queued =>
    if wants (s.bayCfg b).policy x then
      if (evaluated x).expedite then attempt (atHead b (s.setBay b { evaluated x with expedite := false }))
      else s.setBay b x
    else attempt (withdrawn b (s.setBay b { x with state := .idle }))
  | .surge | .run =>
    if wants (s.bayCfg b).policy x then s.setBay b (evaluated x) else drained s b x
  | .empty | .settling | .drain | .fault => s.setBay b (evaluated x)

/-- What the desire makes of a record under a power policy (R12, R14, R15, R19), for a budget limit, the surge currents
of the classes and a drain interval in ms: the record that `obeyed` leaves before any attempt. -/
def obeyedRecord (limit : Int) (surge : ClassIx → Nat) (interval : Nat) (policy : Policy) (x : Bay) : Bay :=
  match x.state with
  | .idle =>
    match x.cls with
    | .cls c =>
      if wants policy x then
        if limit < surge c then faulted .budget (evaluated x)
        else { evaluated x with state := .queued, expedite := false }
      else evaluated x
    | .blank | .unresolved => evaluated x
  | .queued => if wants policy x then { x with expedite := false } else { x with state := .idle }
  | .surge | .run => if wants policy x then evaluated x else { unpowered interval x with state := .drain }
  | .empty | .settling | .drain | .fault => evaluated x

/-- What a class resolved again makes of a record (R31, R63), for a budget limit and the surge currents of the classes:
`answer` is what the resolution gives, `act` what an evaluated desire makes of a record. -/
def reclassedRecord (limit : Int) (surge : ClassIx → Nat) (act : Bay → Bay) (answer : CarrierEntry) (x : Bay) : Bay :=
  match x.state, answer with
  | .idle, .unsupported | .queued, .unsupported => faulted .unsupportedCarrier { x with cls := .unresolved }
  | .idle, .blank => { x with cls := .blank }
  | .queued, .blank => evaluated { x with state := .idle, cls := .blank }
  | .idle, .cls c => act { x with cls := .cls c }
  | .queued, .cls c =>
    if limit < surge c then faulted .budget { x with cls := .cls c } else { x with cls := .cls c }
  | .empty, _ | .settling, _ | .surge, _ | .run, _ | .drain, _ | .fault, _ => x

/-- What a TABLES reset makes of the record of a populated bay with table 0 entry `old` (R37): its class is resolved
again where the override changes, and its desire is evaluated where the policy changes, the default tables and the
strapped policy and budget limit being in place. A QUEUED bay that wants power stays as it is (R50; log 35). -/
def restoredRecord (limit : Int) (policy : Policy) (old : BayCfg) (x : Bay) : Bay :=
  let surge := fun c => (defaultClass c).surge
  let act := obeyedRecord limit surge 500 policy
  let y :=
    if old.override = none then x
    else reclassedRecord limit surge act (defaultCarrierEntry x.carrier.toFin) x
  if old.policy = policy ∨ (y.state = .queued ∧ wants policy y = true) then y else act y

/-- The hot side of a value for a record's class, by the warn temperatures of the classes (R97). -/
def hotFor (warn : ClassIx → Nat) (x : Bay) (value : Int) : Bool :=
  match x.cls with
  | .cls c => decide (2 * (warn c : Int) ≤ value)
  | .blank | .unresolved => false

/-- A temperature record judged again against an effective limit (R99 to R101): it turns stale, is revived with its
hot side judged, or stays. -/
def rejudged (limit : Nat) (hot : Int → Bool) (t : TempRec) : TempRec :=
  if t.stale then (if t.age < limit then { t with stale := false, hot := hot t.value } else t)
  else if limit ≤ t.age then { t with stale := true, hot := false }
  else t

/-- Judging a record again raises TEMPERATURE: it turns stale, or is revived on the hot side (R100, R101). -/
def rejudgeRaises (limit : Nat) (hot : Int → Bool) (t : TempRec) : Bool :=
  if t.stale then decide (t.age < limit) && hot t.value else decide (limit ≤ t.age)

/-- A bay record with TEMPERATURE raised where its temperature record, judged again, raises it. -/
def rejudgedBay (limit : Nat) (hot : Int → Bool) (t : Option TempRec) (x : Bay) : Bay :=
  match t with
  | some r => if rejudgeRaises limit hot r then { x with attn := { x.attn with temperature := true } } else x
  | none => x

/-- What class resolution answers bay b for a carrier code (R8). -/
def classAnswer (s : State) (b : BayIx) (carrier : BitVec 4) : CarrierEntry :=
  match (s.bayCfg b).override with
  | some c => .cls c
  | none => s.sup.carrierMap.get carrier.toFin

/-- Bay b, unpowered with record x, resolved with the carrier code of the latest scan and taken to IDLE or FAULT
(R8, R11, R14, R25). At UNSUPPORTED no desire is evaluated (log 34). -/
def intoIdle (s : State) (b : BayIx) (x : Bay) : State :=
  let y := { x with carrier := (s.seen b).carrier, debounce := none }
  match classAnswer s b y.carrier with
  | .unsupported => s.setBay b (faulted .unsupportedCarrier { y with cls := .unresolved })
  | .blank => obeyed s b { y with state := .idle, cls := .blank, cause := .none, removed := false }
  | .cls c => obeyed s b { y with state := .idle, cls := .cls c, cause := .none, removed := false }

/-- Bay b resolved again in its state with the stored carrier code, the override being in place (R31). -/
def resolvedAgain (s : State) (b : BayIx) : State :=
  let x := s.bay b
  match x.state, classAnswer s b x.carrier with
  | .idle, .unsupported => s.setBay b (faulted .unsupportedCarrier { x with cls := .unresolved })
  | .idle, .blank => s.setBay b { x with cls := .blank }
  | .idle, .cls c => obeyed s b { x with cls := .cls c }
  | .queued, .unsupported =>
    attempt (withdrawn b (s.setBay b (faulted .unsupportedCarrier { x with cls := .unresolved })))
  | .queued, .blank => attempt (withdrawn b (s.setBay b (evaluated { x with state := .idle, cls := .blank })))
  | .queued, .cls c =>
    if (s.acct.ceiling : Int) - s.acct.guardBand < (s.driveClass c).surge then
      attempt (withdrawn b (s.setBay b (faulted .budget { x with cls := .cls c })))
    else attempt (s.setBay b { x with cls := .cls c })
  | .empty, _ | .settling, _ | .surge, _ | .run, _ | .drain, _ | .fault, _ => s

/-- A drive temperature taken for bay b (R22, R97, R98): the clamped store with its hot side and attention, or the
over-temperature cut. -/
def reportTaken (b : BayIx) (v : BitVec 16) (u : State) : State :=
  let value := max (-80) (min 255 v.toInt)
  let hot := match (u.bay b).cls with
    | .cls c => decide (2 * ((u.driveClass c).warn : Int) ≤ value)
    | .blank | .unresolved => false
  let was := match u.temp b with
    | some t => t.hot
    | none => false
  let cut := match (u.bay b).cls with
    | .cls c => (u.bayCfg b).cut && decide (2 * ((u.driveClass c).critical : Int) ≤ value)
    | .blank | .unresolved => false
  let x := if hot = was then u.bay b else { u.bay b with attn := { (u.bay b).attn with temperature := true } }
  if cut then (u.setBay b (faulted .overtemp (unpowered u.sup.drainSetting x))).setTemp b none
  else (u.setBay b x).setTemp b (some ⟨value, 0, hot, false⟩)

/-- The record of a fan after a write of its own table entry from `old` to c, under the record z of the zone it then
serves, before any zone's fan-failed field is recomputed (R119). -/
def fanRewritten (old c : FanCfg) (z : Zone) (x : Fan) : Fan :=
  let target := max z.demand c.minDuty
  let y : Fan :=
    if c.enabled = false then
      (if old.enabled then
        { x with state := .disabled, low := 0, good := 0, target := 0, applied := 0, checked := false }
      else x)
    else if old.enabled = false then
      { x with state := .normal, low := 0, good := 0, target := target, applied := target, checked := false }
    else if old.zone = c.zone ∧ old.minDuty = c.minDuty then x
    else
      { x with
        target := target
        applied :=
          max x.applied (if z.source = .fanFailed ∨ z.source = .critical then target else c.minDuty) }
  { y with checked := y.checked && decide (32 ≤ y.applied) }

/-! ### Invariants -/

/-- R44: a bay is in the admission queue exactly while it is QUEUED, and no bay stands in it twice. -/
abbrev QueueMatches (s : State) : Prop :=
  s.sched.queue.Nodup ∧ ∀ b : BayIx, b ∈ s.sched.queue ↔ (s.bay b).state = .queued

/-- A stagger interval and limit in their ranges (R52). -/
abbrev PaceInRange (p : Pace) : Prop := 100 ≤ p.interval ∧ p.interval ≤ 10000 ∧ 1 ≤ p.limit ∧ p.limit ≤ 8

/-- R52, R53, R56: the staged admissions of a frame never exceed the limit in force. -/
abbrev PaceRespected (s : State) : Prop :=
  PaceInRange s.sched.pace ∧ (∀ p ∈ s.sched.pendingPace, PaceInRange p) ∧
    s.sched.admissions ≤ s.sched.pace.limit ∧ s.sched.frameNumber ≤ 65535

/-- R2, R25, R26: one bay record and its temperature record, field by field against the state. -/
abbrev BayMatches (x : Bay) (t : Option TempRec) : Prop :=
  (x.state = .fault ↔ x.cause ≠ .none) ∧ (x.spin.isSome = true ↔ x.state = .surge) ∧
    (x.debounce.isSome = true ↔ x.state = .settling) ∧ (x.resetHold.isSome = true → x.state = .run) ∧
    (x.removed = true → x.state = .drain) ∧
    (x.drainRunning = true → x.state = .drain ∨ x.state = .fault) ∧ (x.drainDue = true → x.drain = 0) ∧
    (x.state = .empty ∨ x.state = .settling → x.cls = .unresolved) ∧
    (x.state = .idle → x.cls ≠ .unresolved) ∧
    (x.state = .queued ∨ x.state = .surge ∨ x.state = .run → x.cls ≠ .unresolved ∧ x.cls ≠ .blank) ∧
    (t.isSome = true → x.state = .run)

/-- R2, R25, R26, R95: every bay record agrees with its state. -/
abbrev BaysMatch (s : State) : Prop := ∀ b : BayIx, BayMatches (s.bay b) (s.temp b)

/-- R10, R26, R28: a bay whose presence has been lost is EMPTY or in DRAIN, and an EMPTY bay has none. -/
abbrev PresenceMatches (s : State) : Prop :=
  ∀ b : BayIx,
    ((s.bay b).state = .empty → (s.bay b).presence = false) ∧
      ((s.bay b).presence = false → (s.bay b).state = .empty ∨ (s.bay b).state = .drain)

/-- R3, R129: an absent bay stays as a full reset leaves it, and has no slot. -/
abbrev AbsentStayDefault (s : State) : Prop :=
  ∀ b : BayIx, s.populated b = false →
    s.bay b = defaultBay ∧ s.temp b = none ∧ s.bayLights b = defaultBayLights ∧
      s.loop.slotMap.get b = none ∧ s.loop.frame.map.get b = none ∧ ∀ q ∈ s.loop.frame.requests, q.1 ≠ b

/-- R118, R121: one fan record against its table entry. -/
abbrev FanMatches (x : Fan) (c : FanCfg) : Prop :=
  (x.state = .disabled ↔ c.enabled = false) ∧
    (c.enabled = false → x.target = 0 ∧ x.applied = 0 ∧ x.low = 0 ∧ x.good = 0 ∧ x.checked = false) ∧
    x.low ≤ 3 ∧ x.good ≤ 3 ∧ c.minDuty ≤ 255 ∧ (c.enabled = true → c.minDuty ≤ x.applied) ∧
    (x.checked = true → 32 ≤ x.applied)

/-- R111, R115, R118, R121, R123, R124: the fans, the active curves, the reserve handed over, the fan-failed
fields and the holds agree with the tables. -/
abbrev CoolingMatches (s : State) : Prop :=
  (∀ f : FanIx, FanMatches (s.fan f) (s.fanCfg f)) ∧
    (∀ z : ZoneIx, ascending s.cool.activeCurves z = true) ∧ s.acct.fanReserve = reserve s ∧
    (∀ z : ZoneIx, (s.zone z).fanFailed = zoneHasFailure s z) ∧
    ∀ z : ZoneIx, (s.zone z).hold = holdOf s z

/-- R157, R158: the slot map and the map-conflict flag are those of the table and the position. -/
abbrev MapResolved (s : State) : Prop :=
  s.loop.slotMap = Vector.ofFn (resolvedSlot s) ∧ s.loop.mapConflict = allBays.any (outranked s)

/-- R174: a present window lies in its table and its pointer in the window. -/
abbrev WindowInBounds (s : State) : Prop :=
  ∀ w ∈ s.window, w.table ≤ 10 ∧ w.stop < entryCount w.table ∧ w.start ≤ w.pointer ∧ w.pointer ≤ w.stop

/-- R78, R86, R95: the readings and the streaks lie in their ranges, and one streak is 0. -/
abbrev ReadingsInRange (s : State) : Prop :=
  (∀ ch : ChannelIx, (s.channel ch).raw ≤ 4095 ∧ (s.channel ch).corrected ≤ 4095 ∧ (s.sensor ch).span ≤ 65535 ∧
    (ch ≠ 8 → -80 ≤ (s.channel ch).value ∧ (s.channel ch).value ≤ 255)) ∧
    0 ≤ (s.channel 8).value ∧ (s.channel 8).value ≤ 65535 ∧
    (∀ b : BayIx, ∀ t ∈ s.temp b, -80 ≤ t.value ∧ t.value ≤ 255 ∧ t.age ≤ 65535) ∧
    s.acct.overStreak ≤ 3 ∧ s.acct.clearStreak ≤ 3 ∧ (s.acct.overStreak = 0 ∨ s.acct.clearStreak = 0)

/-- R5: a slot field of 0 to 191, or one of the two that name no number. -/
def slotInRange : SlotField → Bool
  | .slot k => decide (k ≤ 191)
  | .unmapped => true
  | .byPosition => true

/-- R109: a curve point in its range. -/
abbrev PointInRange (p : Point) : Prop := -80 ≤ p.temp ∧ p.temp ≤ 255 ∧ p.duty ≤ 255

/-- R129, R130, R131: brightness, epoch and drive levels lie in their ranges. -/
abbrev LightsInRange (s : State) : Prop :=
  s.ind.brightness ≤ 15 ∧ s.ind.epoch ≤ 1999 ∧
    ∀ b : BayIx, (s.ind.levels.get b).activity ≤ 15 ∧ (s.ind.levels.get b).locate ≤ 15 ∧
      (s.ind.levels.get b).fault ≤ 15

/-- R5, R29, R38, R89, R105, R109, R117: every number of the tables of entries lies in its range, and no bay has made
more retries than a table entry can allow. -/
abbrev EntriesInRange (s : State) : Prop :=
  (∀ c : ClassIx, (s.driveClass c).surge ≤ 2000 ∧ (s.driveClass c).run ≤ 2000 ∧
    1 ≤ (s.driveClass c).spinUp ∧ (s.driveClass c).spinUp ≤ 255 ∧ 1 ≤ (s.driveClass c).pgTimeout ∧
    (s.driveClass c).pgTimeout ≤ 255 ∧ (s.driveClass c).resetHold ≤ 255 ∧ (s.driveClass c).retryLimit ≤ 3 ∧
    (s.driveClass c).warn ≤ 127 ∧ (s.driveClass c).critical ≤ 127) ∧
    (∀ b : BayIx, (s.bay b).retries ≤ 3 ∧ slotInRange (s.bayCfg b).slot = true) ∧
    (∀ i : Fin 24, PointInRange (s.cool.pendingCurves.get i) ∧ PointInRange (s.cool.activeCurves.get i)) ∧
    (∀ z : ZoneIx, -80 ≤ (s.zoneCfg z).holdTemp ∧ (s.zoneCfg z).holdTemp ≤ 255 ∧ (s.zoneCfg z).driveOffset ≤ 31 ∧
      (s.zoneCfg z).fallback ≤ 255) ∧
    (∀ ch : ChannelIx, (s.sensor ch).magnitude ≤ 7 ∧ (s.sensor ch).span ≤ 65535 ∧ -128 ≤ (s.sensor ch).intercept ∧
      (s.sensor ch).intercept ≤ 127) ∧
    ∀ f : FanIx, (s.fanCfg f).fullCurrent ≤ 1000 ∧ (s.fanCfg f).minDuty ≤ 255 ∧ (s.fanCfg f).minRpm ≤ 65535 ∧
      1 ≤ (s.fanCfg f).pulses ∧ (s.fanCfg f).pulses ≤ 4

/-- R9, R69, R99, R104, R166: every number of the part settings, table 9, lies in its range (those of entry 1 in
`PaceRespected`, the brightness in `LightsInRange`). -/
abbrev SettingsInRange (s : State) : Prop :=
  1 ≤ s.sup.debounceSetting ∧ s.sup.debounceSetting ≤ 255 ∧ 100 ≤ s.sup.drainSetting ∧ s.sup.drainSetting ≤ 5000 ∧
    s.acct.ceiling ≤ 60000 ∧ s.acct.guardBand ≤ 2000 ∧ s.acct.margin ≤ 2000 ∧
    1 ≤ s.scan.staleness ∧ s.scan.staleness ≤ 255 ∧ 200 ≤ s.cool.period ∧ s.cool.period ≤ 5000 ∧
    1 ≤ s.cool.upStep ∧ s.cool.upStep ≤ 255 ∧ 1 ≤ s.cool.downStep ∧ s.cool.downStep ≤ 255 ∧
    1 ≤ s.loop.timeout ∧ s.loop.timeout ≤ 255

/-- A run is safe while every waiting command can arrive: no step of it stops. -/
abbrev SafeQueue (s : State) : Prop := ∀ c ∈ s.pending, c.wellFormed = true

end Sys2Proof.Safety
end

