-- ==== Sys2Proof/Certificates/Slice0/Obligations.lean ====
section
/-! DEFINITION. The statements for the provers. Each docstring names the rules of spec/ it rests on, and the log
entry where a clause is the model's own choice. -/

open Sys2Proof Sys2Proof.Machine Sys2Proof.Safety

/-! ### The queue of commands, and who a command reaches -/

/-- A step with command c at the front of the queue runs c on the state with the queue's rest; on an empty queue
the part idles (log 6). -/
def Obligations.StepRunsFrontCommand : Prop :=
  (∀ (c : Instr) (rest : List Instr) (s : State), s.pending = c :: rest →
    step s = exec c { s with pending := rest }) ∧
  ∀ s : State, s.pending = [] → step s = .next s

/-- Every well-formed command answers a next state from every state, and an event of a bay or fan line the part
does not have stops by name (log 23). -/
def Obligations.WellFormedCommandsComplete : Prop :=
  (∀ (c : Instr) (s : State), c.wellFormed = true → ∃ t, exec c s = .next t) ∧
  (∀ (c : Instr) (s : State) (n : Nat), bayLine c = some n → 24 ≤ n → exec c s = .fault .noSuchLine) ∧
  ∀ (s : State) (n : Nat), 8 ≤ n → exec (.tachPulse n) s = .fault .noSuchLine

/-- R187, the held phase: while a trigger holds the part, events, messages and frame ends change nothing, a tick only moves
the input pins, and every symbol of a running loop clock sends IDLE. That records and events are left alone is
inferred (log 19). -/
def Obligations.HeldPartTakesNothing : Prop :=
  ∀ s : State, s.inReset = true →
    (∀ c : Instr, needsRelease c = true → c.wellFormed = true → exec c s = .next s) ∧
    (∀ (pins : Pins) (l : LightsOrder), exec (.timebaseTick pins l) s = .next { s with io := { s.io with pins := pins } }) ∧
    ∀ bits : BitVec 9, s.loop.clock = true →
      exec (.loopSymbol bits) s = .next { s with loop := { s.loop with sent := .idle } }

/-- R3: the inputs and timers of an absent bay are not looked at. R3, R51, R82, R94, R125, R126, R111: a message that names a
single absent bay, or a page, offset, fan, channel or zone that does not exist, is refused with BAD_ARGUMENT (code 3)
and data bytes of 0, and changes nothing else. -/
def Obligations.AbsentNumbersRefused : Prop :=
  (∀ (c : Instr) (s : State) (b : BayIx), bayLine c = some b.val → s.populated b = false → exec c s = .next s) ∧
  ∀ (s : State) (dst tag n cls : Byte), Takes s dst →
    let refused := fun (c : Instr) (kind : Byte) => exec c s = .next (answered s kind tag .badArgument [])
    (s.rst.straps.bayCount ≤ n.toNat →
      refused (.bayRead dst tag n) 2#8 ∧ refused (.bayPowerOn dst tag n) 3#8 ∧
      refused (.bayPowerExpedite dst tag n) 3#8 ∧ refused (.bayPowerOff dst tag n) 3#8 ∧
      refused (.bayPowerRelease dst tag n) 3#8 ∧ refused (.bayPowerCycle dst tag n) 3#8 ∧
      refused (.bayPowerClear dst tag n) 3#8 ∧ refused (.bayReset dst tag n) 4#8 ∧
      refused (.bayClass dst tag n cls) 5#8) ∧
    (2 ≤ n.toNat → refused (.powerRead dst tag n) 15#8) ∧ (24 ≤ n.toNat → refused (.queueRead dst tag n) 16#8) ∧
    (8 ≤ n.toNat → refused (.fanRead dst tag n) 17#8) ∧ (9 ≤ n.toNat → refused (.sensorRead dst tag n) 18#8) ∧
    (4 ≤ n.toNat → refused (.zoneRead dst tag n) 19#8 ∧ refused (.curveActivate dst tag n) 14#8)

/-- DESIGN CHOICE (log 1): an event row whose event has not come about changes nothing. -/
def Obligations.EventsNotDueChangeNothing : Prop :=
  ∀ s : State,
    (∀ b : BayIx,
      (presenceActiveDue s b = false → exec (.presenceActive b.val) s = .next s) ∧
      (presenceLossDue s b = false → exec (.presenceLoss b.val) s = .next s) ∧
      (powerGoodSeenDue s b = false → exec (.powerGoodSeen b.val) s = .next s) ∧
      (powerGoodLostDue s b = false → exec (.powerGoodLost b.val) s = .next s) ∧
      (switchFaultDue s b = false → exec (.switchFault b.val) s = .next s) ∧
      (edgeDue s b = false → exec (.driveActivityEdge b.val) s = .next s) ∧
      (debounceDue s b = false → exec (.debounceExpiry b.val) s = .next s) ∧
      (drainDue s b = false → exec (.drainExpiry b.val) s = .next s) ∧
      (surgeDeadlineDue s b = false → exec (.surgeDeadline b.val) s = .next s) ∧
      (pgDeadlineDue s b = false → exec (.powerGoodDeadline b.val) s = .next s) ∧
      (resetHoldDue s b = false → exec (.resetHoldExpiry b.val) s = .next s) ∧
      (staleDue s b = false → exec (.temperatureStale b.val) s = .next s) ∧
      (stretchDue s b = false → exec (.activityStretchExpiry b.val) s = .next s)) ∧
    (s.time.now < s.sched.nextBoundary → exec .staggerBoundary s = .next s) ∧
    (s.time.now < s.cool.periodEnd → exec .coolingUpdate s = .next s) ∧
    (s.scan.slotDue = false → exec .conversionEnd s = .next s) ∧
    (s.loop.timer ≠ 0 ∨ s.loop.lost = true → exec .loopTimerExpiry s = .next s) ∧
    (s.loop.frameEnd ≠ some true → exec .goodFrameEnd s = .next s) ∧
    (s.loop.frameEnd ≠ some false → exec .badCheckFrameEnd s = .next s) ∧
    (s.loop.clock = false → ∀ bits, exec (.loopSymbol bits) s = .next s) ∧
    (s.loop.clock = true → exec .loopClockReturn s = .next s)

/-- R156, R162, R170: a message command is not noticed by an unplaced part nor under another part's destination; a
broadcast of a kind that does not act when broadcast is ignored; and a request addressed to a part whose reply hold
holds a reply is not executed: it sets the reply-overrun flag, and the held reply stays as it was. -/
def Obligations.RequestsNotTaken : Prop :=
  ∀ (c : Instr) (d : Byte) (s : State), destination c = some d → s.inReset = false →
    (s.loop.position = none → exec c s = .next s) ∧
    (d ≠ 15#8 → s.loop.position.map (·.val) ≠ some d.toNat → exec c s = .next s) ∧
    (d = 15#8 → actsWhenBroadcast c = false → exec c s = .next s) ∧
    (s.loop.position.map (·.val) = some d.toNat → s.loop.reply.isSome = true →
      exec c s = .next { s with loop := { s.loop with overrun := true } })

/-! ### Bay events of the scan -/

/-- R10, R24: PRESENCE_ACTIVE takes an EMPTY bay to SETTLING at the full debounce interval (R9), and only notes the presence
in any other state; before the first scan after a full reset there is no presence to see (R1, R36, R188). R11, R14, R15, R19,
R24, R28: PRESENCE_LOSS, by the state of the bay. In FAULT, a drain timer at 0 whose expiry has not been taken counts as
running whatever that expiry will do: the model's reading (log 17, DEDUCED). Nothing else changes. -/
def Obligations.PresenceChangesComplete : Prop :=
  ∀ (s : State) (b : BayIx), BayLive s b →
    (s.io.firstScan = true → exec (.presenceActive b.val) s = .next s) ∧
    (s.io.firstScan = false → (s.seen b).presence = true → (s.bay b).presence = false →
      exec (.presenceActive b.val) s = .next (s.setBay b
        (if (s.bay b).state = .empty then
          startSettling (s.sup.debounceSetting * 10) { s.bay b with presence := true }
        else { s.bay b with presence := true }))) ∧
    ((s.seen b).presence = false → (s.bay b).presence = true →
      let x := { s.bay b with presence := false }
      let y := { x with attn := { x.attn with presence := true } }
      ((s.bay b).state = .empty → exec (.presenceLoss b.val) s = .next (s.setBay b x)) ∧
      ((s.bay b).state = .settling → exec (.presenceLoss b.val) s = .next (s.setBay b (emptied x))) ∧
      ((s.bay b).state = .idle → exec (.presenceLoss b.val) s = .next (s.setBay b (emptied y))) ∧
      ((s.bay b).state = .queued →
        exec (.presenceLoss b.val) s = .next (attempt (withdrawn b (s.setBay b (emptied y))))) ∧
      ((s.bay b).state = .surge ∨ (s.bay b).state = .run →
        exec (.presenceLoss b.val) s = .next (drained s b { y with removed := true })) ∧
      ((s.bay b).state = .drain →
        exec (.presenceLoss b.val) s =
          .next (s.setBay b (if x.removed then x else { y with removed := true }))) ∧
      ((s.bay b).state = .fault →
        exec (.presenceLoss b.val) s =
          .next (s.setBay b
            (if x.drain ≠ 0 ∨ x.drainDue = true then
              { y with state := .drain, cause := .none, retries := 0, removed := true }
            else emptied y))))

/-- R17, R20: POWER_GOOD_SEEN sets power-good seen, and takes a bay whose surge deadline has passed to RUN at once.
The level of one scan is looked at once (log 7). -/
def Obligations.PowerGoodSeenCompletes : Prop :=
  ∀ (s : State) (b : BayIx) (p : Spin) (c : ClassIx), BayLive s b → (s.bay b).state = .surge →
    (s.bay b).spin = some p → (s.bay b).cls = .cls c → (s.bay b).lookPg = true → (s.seen b).powerGood = true →
    exec (.powerGoodSeen b.val) s = .next
      (if p.surgeTaken then
        settled s (s.setBay b (startRunning (s.driveClass c).resetHold { s.bay b with lookPg := false }))
      else s.setBay b { s.bay b with lookPg := false, spin := some { p with pgSeen := true } })

/-- R18, R23, R26: a switch fault in SURGE or RUN, and a loss of power-good in RUN or after it was seen in SURGE, take
the bay to FAULT with power removed; the cause is OVERCURRENT if the switch-fault input is active at the scan, and
POWER_LOST otherwise. The level of one scan is looked at once (log 7). -/
def Obligations.PowerFailureFaults : Prop :=
  ∀ (s : State) (b : BayIx), BayLive s b →
    (((s.bay b).state = .surge ∨ (s.bay b).state = .run) → (s.bay b).lookSf = true →
      (s.seen b).switchFault = true →
      exec (.switchFault b.val) s = .next (faultedPowered s b .overcurrent)) ∧
    (((s.bay b).state = .run ∨ ((s.bay b).state = .surge ∧ ∃ p, (s.bay b).spin = some p ∧ p.pgSeen = true)) →
      (s.bay b).lookPg = true → (s.seen b).powerGood = false →
      exec (.powerGoodLost b.val) s = .next
        (faultedPowered s b (if (s.seen b).switchFault then .overcurrent else .powerLost)))

/-! ### Bay timers -/

/-- R8, R11, R14: DEBOUNCE_EXPIRY of one bay raises PRESENCE, reads the carrier code, resolves the class and takes the bay to
IDLE, QUEUED or FAULT; a bay that enters QUEUED is followed by an attempt. R49, as the model takes it (log 5, DEDUCED):
where the bay records agree with their states, one expiry command takes every debounce and drain expiry of the tick; and
where every bay whose debounce expires then wants power within the budget limit and is not expedited, all of them enter
the queue at its tail in ascending number, and one attempt is made. -/
def Obligations.DebounceExpiryCompletes : Prop :=
  ∀ (s : State) (b : BayIx), BayLive s b →
    ((s.bay b).state = .settling → (s.bay b).debounce = some 0 →
      (∀ c : BayIx, c ≠ b → s.populated c = true → debounceDue s c = false ∧ drainDue s c = false) →
      exec (.debounceExpiry b.val) s = .next
        (intoIdle s b { s.bay b with attn := { (s.bay b).attn with presence := true } })) ∧
    (BaysMatch s → 1 ≤ s.sup.debounceSetting → debounceDue s b = true ∨ drainDue s b = true →
      ∃ t, (debounceDue s b = true → exec (.debounceExpiry b.val) s = .next t) ∧
        (drainDue s b = true → exec (.drainExpiry b.val) s = .next t) ∧
        ∀ c : BayIx, s.populated c = true → debounceDue t c = false ∧ drainDue t c = false) ∧
    ((s.bay b).state = .settling → (s.bay b).debounce = some 0 →
      (∀ c : BayIx, s.populated c = true → drainDue s c = false) →
      (∀ c : BayIx, s.populated c = true → debounceDue s c = true →
        wants (s.bayCfg c).policy (s.bay c) = true ∧ (evaluated (s.bay c)).expedite = false ∧
          ∃ k, classAnswer s c (s.seen c).carrier = .cls k ∧
            ((s.driveClass k).surge : Int) ≤ s.acct.ceiling - s.acct.guardBand) →
      ∃ u, exec (.debounceExpiry b.val) s = .next (attempt u) ∧
        u = { s with
          sup := { s.sup with bays := u.sup.bays }
          sched :=
            { s.sched with
              queue := s.sched.queue ++ allBays.filter fun c => s.populated c && debounceDue s c } } ∧
        (∀ (c : BayIx) (k : ClassIx), s.populated c = true → debounceDue s c = true →
          classAnswer s c (s.seen c).carrier = .cls k →
          u.bay c =
            { s.bay c with
              state := .queued, cls := .cls k, carrier := (s.seen c).carrier, cause := .none, debounce := none
              removed := false, attn := { (s.bay c).attn with presence := true } }) ∧
        ∀ c : BayIx, s.populated c = false ∨ debounceDue s c = false → u.bay c = s.bay c)

/-- R25, R27: DRAIN_EXPIRY of one bay. In DRAIN the presence and the removed-during-drain flag give the next state; in FAULT
a cause that retries, with retries left, leaves as a DRAIN exit with a clear flag would, and otherwise the bay stays. That
an exit whose class resolution gives UNSUPPORTED evaluates no desire on its way to FAULT is the model's reading (log 34,
DEDUCED). -/
def Obligations.DrainExpiryCompletes : Prop :=
  ∀ (s : State) (b : BayIx), BayLive s b → (s.bay b).drainDue = true →
    (∀ c : BayIx, c ≠ b → s.populated c = true → debounceDue s c = false ∧ drainDue s c = false) →
    let x := { s.bay b with drainDue := false }
    ((s.bay b).state = .drain →
      exec (.drainExpiry b.val) s = .next
        (if x.presence then
          (if x.removed then s.setBay b (startSettling (s.sup.debounceSetting * 10) x) else intoIdle s b x)
        else s.setBay b (emptied x))) ∧
    ∀ c : ClassIx, (s.bay b).state = .fault → (s.bay b).cls = .cls c →
      exec (.drainExpiry b.val) s = .next
        (if (x.cause = .noPowerGood ∨ x.cause = .powerLost ∨ x.cause = .overcurrent) ∧
            x.retries < (s.driveClass c).retryLimit then
          (if x.presence then intoIdle s b { x with retries := x.retries + 1, cause := .none }
          else s.setBay b (emptied { x with retries := x.retries + 1, cause := .none }))
        else s.setBay b x)

/-- R17, R20, R21, R26: SURGE_DEADLINE takes a bay with power-good seen to RUN and leaves any other in SURGE;
POWER_GOOD_DEADLINE takes a bay without power-good seen to FAULT with NO_POWER_GOOD and does nothing to any other;
RESET_HOLD_EXPIRY releases the reset and raises RESET_DONE. The marks that a deadline has been taken are the model's
(log 17). -/
def Obligations.DeadlinesComplete : Prop :=
  ∀ (s : State) (b : BayIx), BayLive s b →
    (∀ (p : Spin) (c : ClassIx), (s.bay b).state = .surge → (s.bay b).spin = some p → (s.bay b).cls = .cls c →
      (p.surgeTaken = false → p.surgeDeadline ≤ s.time.now →
        exec (.surgeDeadline b.val) s = .next
          (if p.pgSeen then settled s (s.setBay b (startRunning (s.driveClass c).resetHold (s.bay b)))
          else s.setBay b { s.bay b with spin := some { p with surgeTaken := true } })) ∧
      (p.pgTaken = false → p.pgDeadline ≤ s.time.now →
        exec (.powerGoodDeadline b.val) s = .next
          (if p.pgSeen then s.setBay b { s.bay b with spin := some { p with pgTaken := true } }
          else faultedPowered s b .noPowerGood))) ∧
    ((s.bay b).state = .run → (s.bay b).resetHold = some 0 →
      exec (.resetHoldExpiry b.val) s = .next (s.setBay b
        { s.bay b with resetHold := none, attn := { (s.bay b).attn with resetDone := true } }))

/-! ### Staging -/

/-- R53: the five steps of a stagger boundary. -/
def Obligations.StaggerBoundaryCompletes : Prop :=
  ∀ s : State, s.inReset = false → s.sched.nextBoundary ≤ s.time.now →
    let pace := match s.sched.pendingPace with
      | some p => p
      | none => s.sched.pace
    exec .staggerBoundary s = .next
      (attempt
        { s with
          sched :=
            { s.sched with
              admissions := 0
              frameNumber := (s.sched.frameNumber + 1) % 65536
              pace := pace
              pendingPace := none
              generation := if s.sched.pendingPace = none then s.sched.generation else !s.sched.generation
              nextBoundary := s.time.now + pace.interval } })

/-- R59, R61, R75, R79: an attempt under overdraw or in deficit admits nothing; any attempt changes nothing but the records,
queue entries and staged count of the queued bays it admits, admits no bay of a held zone, and leaves the headroom at
least 0 if it admits one. The bays it admits leave the queue and every other bay keeps its entry, and each admitted bay
of a staged class is counted. -/
def Obligations.AttemptAdmitsWithinBounds : Prop :=
  ∀ s : State, QueueMatches s →
    OnlyAdmits s (attempt s) ∧
    (s.acct.overdraw = true → attempt s = s) ∧
    (s.headroom < 0 → attempt s = s) ∧
    (∀ b : BayIx, (s.bay b).state = .queued → ((attempt s).bay b).state = .surge →
      s.zoneHeld b = false ∧ b ∉ (attempt s).sched.queue ∧ 0 ≤ (attempt s).headroom) ∧
    (attempt s).sched.queue = s.sched.queue.filter (fun b => decide (((attempt s).bay b).state ≠ .surge)) ∧
    (attempt s).sched.admissions = s.sched.admissions + (s.sched.queue.filter fun b =>
      decide (((attempt s).bay b).state = .surge) &&
        (match (s.bay b).cls with
        | .cls k => (s.driveClass k).staged
        | .blank | .unresolved => false)).length

/-- R59, R16, R61: the walk passes over a bay for a held zone only: a bay is admitted only if every bay ahead of it in the
queue is in a held zone or is admitted with it. The first bay of the queue whose zone is not held is admitted if there is
no overdraw, its class is not staged or the limit is not reached, and its surge current is at most the headroom: it enters
SURGE with its deadlines, leaves the queue and is counted if staged, and the attempt goes on from there. Otherwise the
attempt admits nothing, and so it does where every zone is held. -/
def Obligations.AttemptInQueueOrder : Prop :=
  (∀ (s : State) (ahead behind : List BayIx) (b : BayIx), QueueMatches s → BaysMatch s →
    s.sched.queue = ahead ++ b :: behind → ((attempt s).bay b).state = .surge →
    ∀ c ∈ ahead, s.zoneHeld c = true ∨ ((attempt s).bay c).state = .surge) ∧
  (∀ (s : State) (ahead behind : List BayIx) (b : BayIx) (k : ClassIx), QueueMatches s →
    s.sched.queue = ahead ++ b :: behind → (∀ c ∈ ahead, (s.zone (s.bayCfg c).zone).hold = true) →
    (s.zone (s.bayCfg b).zone).hold = false → (s.bay b).cls = .cls k →
    let c := s.driveClass k
    let fits := s.acct.overdraw = false ∧ (c.staged = false ∨ s.sched.admissions < s.sched.pace.limit) ∧
      (c.surge : Int) ≤ s.headroom
    let x : Bay :=
      { s.bay b with
        state := .surge, lookPg := false, lookSf := false
        spin := some
          { surgeDeadline := s.time.now + c.spinUp * 100, pgDeadline := s.time.now + c.pgTimeout * 10
            pgSeen := false, surgeTaken := false, pgTaken := false } }
    (fits → attempt s = attempt
      { s.setBay b x with
        sched :=
          { s.sched with
            queue := ahead ++ behind
            admissions := if c.staged then s.sched.admissions + 1 else s.sched.admissions } } ∧
      (attempt s).bay b = x) ∧
    (¬ fits → attempt s = s)) ∧
  ∀ s : State, (∀ b ∈ s.sched.queue, (s.zone (s.bayCfg b).zone).hold = true) → attempt s = s

/-! ### Sensing -/

/-- R87, R88, R90 to R92: CONVERSION_END latches the conversion's code with the channel's calibration unless it was
cancelled, hands a channel 8 result to the supply monitor (R77), and starts the next enabled channel; an attempt
follows when overdraw clears. -/
def Obligations.ConversionEndCompletes : Prop :=
  ∀ s : State, s.inReset = false → s.scan.slotDue = true →
    ∃ u, exec .conversionEnd s =
        .next (if s.acct.overdraw = true ∧ u.acct.overdraw = false then attempt u else u) ∧
      u = { s with scan := u.scan, acct := u.acct } ∧
      u.scan = { s.scan with
        channels := u.scan.channels, pointer := u.scan.pointer, converting := u.scan.converting, slotDue := false } ∧
      (∀ k : Conversion, s.scan.converting = some k → k.cancelled = false →
        let c := s.sensor k.channel
        let raw := (s.io.pins.analog.get k.channel).toNat
        let corrected :=
          if c.negative then (if raw ≤ 2 * c.magnitude then 0 else raw - 2 * c.magnitude)
          else min 4095 (raw + 2 * c.magnitude)
        (u.channel k.channel).raw = raw ∧ (u.channel k.channel).corrected = corrected ∧
        (k.channel ≠ 8 →
          (u.channel k.channel).value = max (-80) (min 255 (c.intercept + ((corrected * c.span / 4096 : Nat) : Int))) ∧
          ((u.channel k.channel).valid = true ↔ raw ≠ 0 ∧ raw ≠ 4095) ∧ u.acct = s.acct) ∧
        (k.channel = 8 →
          (u.channel 8).value = ((corrected * c.span / 4096 : Nat) : Int) ∧ (u.channel 8).valid = true ∧
          u.acct = s.acct.judge ((corrected * c.span / 4096 : Nat) : Int)) ∧
        ∀ ch : ChannelIx, ch ≠ k.channel → u.channel ch = s.channel ch) ∧
      ((s.scan.converting = none ∨ ∃ k, s.scan.converting = some k ∧ k.cancelled = true) →
        u.scan.channels = s.scan.channels ∧ u.acct = s.acct) ∧
      (∀ k : Conversion, u.scan.converting = some k → k.cancelled = false ∧ u.scan.pointer = some k.channel) ∧
      (u.scan.converting = none → u.scan.pointer = s.scan.pointer) ∧
      ∀ ch : ChannelIx, u.scan.converting = some ⟨ch, false⟩ ↔
        (s.sensor ch).enabled = true ∧
          ((∃ p, s.scan.pointer = some p ∧ p < ch ∧ ∀ d, p < d → d < ch → (s.sensor d).enabled = false) ∨
            ((∀ p, s.scan.pointer = some p → ∀ d, p < d → (s.sensor d).enabled = false) ∧
              ∀ d, d < ch → (s.sensor d).enabled = false))

/-- R78: the monitor's two streaks and the overdraw condition after one channel 8 result. -/
def Obligations.SupplyMonitorJudges : Prop :=
  ∀ (a : PowerAccount) (measured : Int), a.overStreak ≤ 3 → a.clearStreak ≤ 3 →
    ((a.ceiling : Int) + a.margin < measured →
      (a.judge measured).overStreak = (if a.overStreak = 3 then 3 else a.overStreak + 1) ∧
      (a.judge measured).clearStreak = 0 ∧
      ((a.judge measured).overdraw = true ↔ a.overdraw = true ∨ 2 ≤ a.overStreak)) ∧
    (measured ≤ (a.ceiling : Int) + a.margin →
      (a.judge measured).overStreak = 0 ∧
      (a.judge measured).clearStreak = (if a.clearStreak = 3 then 3 else a.clearStreak + 1) ∧
      ((a.judge measured).overdraw = true ↔ a.overdraw = true ∧ a.clearStreak < 2)) ∧
    (a.judge measured).ceiling = a.ceiling ∧ (a.judge measured).guardBand = a.guardBand ∧
    (a.judge measured).margin = a.margin ∧ (a.judge measured).fanReserve = a.fanReserve ∧
    (a.ceiling ≤ 60000 → a.margin ≤ 2000 → a.ceiling + a.margin ≤ 62000)

/-- R99, R100: TEMPERATURE_STALE raises TEMPERATURE, and the record keeps value and age, is no longer valid, and its recorded
side becomes not hot. -/
def Obligations.TemperatureStaleCompletes : Prop :=
  ∀ (s : State) (b : BayIx) (t : TempRec), BayLive s b → s.temp b = some t → t.stale = false →
    min 65535 (s.scan.staleness * 1000) ≤ t.age →
    exec (.temperatureStale b.val) s = .next
      ((s.setTemp b (some { t with stale := true, hot := false })).setBay b
        { s.bay b with attn := { (s.bay b).attn with temperature := true } })

/-! ### Cooling -/

/-- R106, R107: COOLING_UPDATE begins the next period, judges and drives the fans, hands the reserve over and recomputes
the holds; nothing outside the Cooling Controller and the fan reserve changes, and one attempt follows when the
reserve falls or a hold clears. -/
def Obligations.CoolingUpdateCompletes : Prop :=
  ∀ s : State, s.inReset = false → s.cool.periodEnd ≤ s.time.now →
    let u := coolingStages s
    exec .coolingUpdate s = .next
      (if u.acct.fanReserve < s.acct.fanReserve ∨
          (∃ z : ZoneIx, (s.zone z).hold = true ∧ (u.zone z).hold = false) then attempt u else u) ∧
    u = { s with cool := u.cool, acct := { s.acct with fanReserve := u.acct.fanReserve } } ∧
    u.cool = { s.cool with
      zones := u.cool.zones, fans := u.cool.fans, periodEnd := s.time.now + s.cool.period
      periodLength := s.cool.period } ∧
    u.acct.fanReserve = (allFans.map fun f =>
      if (s.fanCfg f).enabled then
        (if (u.fan f).state = .failed then (s.fanCfg f).fullCurrent
        else ((s.fanCfg f).fullCurrent * (u.fan f).applied + 254) / 255)
      else 0).sum ∧
    ∀ z : ZoneIx,
      ((u.zone z).fanFailed = true ↔
        ∃ f : FanIx, (s.fanCfg f).enabled = true ∧ (s.fanCfg f).zone = z ∧ (u.fan f).state = .failed) ∧
      ((u.zone z).hold = true ↔
        (u.zone z).fanFailed = true ∨ ∃ t, (u.zone z).temp = some t ∧ (s.zoneCfg z).holdTemp ≤ t)

/-- R120: a tach pulse is counted up to 65535, and nothing else changes. R120, R122: the speed and the state of each fan after
the tach judgement of an update. -/
def Obligations.FanSpeedCountedAndJudged : Prop :=
  ∀ (s : State) (f : FanIx),
    let x := s.fan f
    let c := s.fanCfg f
    let u := (coolingStages s).fan f
    (s.inReset = false →
      exec (.tachPulse f.val) s = .next (s.setFan f { x with tach := if x.tach < 65535 then x.tach + 1 else 65535 })) ∧
    u.rpm = min 65535 (x.tach * 60000 / (c.pulses * s.cool.periodLength)) ∧ u.tach = 0 ∧
    (c.enabled = true ∧ x.checked = true → x.low ≤ 3 → x.good ≤ 3 →
      (u.rpm < c.minRpm →
        ((u.state, u.low, u.good) =
          if x.state = .normal ∧ 2 ≤ x.low then (.failed, 0, 0) else (x.state, min 3 (x.low + 1), 0))) ∧
      (c.minRpm ≤ u.rpm →
        ((u.state, u.low, u.good) =
          if x.state = .failed ∧ 2 ≤ x.good then (.normal, 0, 0) else (x.state, 0, min 3 (x.good + 1))))) ∧
    (c.enabled = false ∨ x.checked = false → u.state = x.state ∧ u.low = x.low ∧ u.good = x.good)

/-- R108: the temperature of a zone after an update is the largest of its readings, and absent without one; the count of valid
inputs is the number of readings. A bay's record is valid while its age is below the effective staleness limit (R95, R99). -/
def Obligations.ZoneTemperatureAtUpdate : Prop :=
  ∀ (s : State) (z : ZoneIx),
    let u := (coolingStages s).zone z
    let sensor := fun (ch : ChannelIx) =>
      decide (ch ≠ 8) && (s.sensor ch).enabled && (s.channel ch).valid && decide ((s.sensor ch).zone = some z)
    let bay := fun (b : BayIx) => s.populated b && decide ((s.bayCfg b).zone = z) &&
      (match s.temp b with
      | some t => decide (t.age < min 65535 (s.scan.staleness * 1000))
      | none => false)
    let reading := fun (v : Int) =>
      (∃ ch, sensor ch = true ∧ v = (s.channel ch).value) ∨
      ∃ b, bay b = true ∧ ∃ t, s.temp b = some t ∧ v = max (-80) (t.value - 2 * ((s.zoneCfg z).driveOffset : Int))
    (∀ v, u.temp = some v ↔ reading v ∧ ∀ w, reading w → w ≤ v) ∧
    (u.temp = none ↔ ¬ ∃ v, reading v) ∧
    u.inputs = (allChannels.filter sensor).length + (allBays.filter bay).length

/-- R113: the demand and source of a zone after an update, the first case that applies. A record is valid while its age
is below the effective staleness limit (R95, R99). -/
def Obligations.ZoneDemandAtUpdate : Prop :=
  ∀ (s : State) (z : ZoneIx),
    let u := (coolingStages s).zone z
    let critical := ∃ (b : BayIx) (t : TempRec) (c : ClassIx), s.populated b = true ∧ (s.bayCfg b).zone = z ∧
      s.temp b = some t ∧ t.age < min 65535 (s.scan.staleness * 1000) ∧ (s.bay b).cls = .cls c ∧
      2 * ((s.driveClass c).critical : Int) ≤ t.value
    (u.fanFailed = true → u.demand = 255 ∧ u.source = .fanFailed) ∧
    (u.fanFailed = false → critical → u.demand = 255 ∧ u.source = .critical) ∧
    (u.fanFailed = false → ¬ critical → u.temp = none →
      u.demand = (s.zoneCfg z).fallback ∧ u.source = .fallback) ∧
    (u.fanFailed = false → ¬ critical → ∀ t, u.temp = some t →
      u.demand = curveValue s z t ∧ u.source = .curve)

/-- R112: the curve value on active points of ascending temperature: flat below the first and above the last, and
rounded up on a straight line between two. -/
def Obligations.CurveInterpolates : Prop :=
  ∀ (s : State) (z : ZoneIx) (t : Int), ascending s.cool.activeCurves z = true →
    let pt := fun (i : Nat) => curvePoint s.cool.activeCurves z i
    let v := (curveValue s z t : Int)
    (t ≤ (pt 0).temp → v = (pt 0).duty) ∧ ((pt 5).temp ≤ t → v = (pt 5).duty) ∧
    ∀ i : Nat, i < 5 → (pt i).temp ≤ t → t < (pt (i + 1)).temp →
      let run := (pt (i + 1)).temp - (pt i).temp
      let rise := (((pt (i + 1)).duty : Int) - (pt i).duty) * (t - (pt i).temp)
      rise ≤ (v - (pt i).duty) * run ∧ (v - (pt i).duty - 1) * run < rise ∧
        min ((pt i).duty : Int) (pt (i + 1)).duty ≤ v ∧ v ≤ max ((pt i).duty : Int) (pt (i + 1)).duty

/-- R114, R115, R121: target, applied duty and checked mark of each fan after an update. -/
def Obligations.DutyMovesAtUpdate : Prop :=
  ∀ (s : State) (f : FanIx),
    let x := s.fan f
    let c := s.fanCfg f
    let u := (coolingStages s).fan f
    let z := (coolingStages s).zone c.zone
    (c.enabled = false → u.target = 0 ∧ u.applied = 0 ∧ u.checked = false) ∧
    (c.enabled = true →
      u.target = max z.demand c.minDuty ∧ c.minDuty ≤ u.applied ∧ (u.checked = true ↔ 32 ≤ u.applied) ∧
      (u.target = 255 ∧ (z.source = .fanFailed ∨ z.source = .critical) → c.minDuty ≤ 255 → u.applied = 255) ∧
      (¬ (u.target = 255 ∧ (z.source = .fanFailed ∨ z.source = .critical)) →
        (x.applied < u.target → u.applied = max c.minDuty (min u.target (x.applied + s.cool.upStep))) ∧
        (u.target < x.applied → u.applied = max c.minDuty (max u.target (x.applied - s.cool.downStep))) ∧
        (u.target = x.applied → u.applied = x.applied)))

/-! ### Indicators and the tick -/

/-- R134: the activity stretch at a rising edge and at its timer's expiry. R135: BLINK SYNC sets the blink epoch to 0, answered
OK when sent to the part and by no part when broadcast. -/
def Obligations.ActivityAndBlinkSyncComplete : Prop :=
  (∀ (s : State) (b : BayIx), BayLive s b →
    ((s.bayLights b).edgeDue = true →
      exec (.driveActivityEdge b.val) s = .next (s.setBayLights b
        (match (s.bayLights b).phase with
        | .none => { s.bayLights b with edgeDue := false, phase := .dark, timer := 60 }
        | .dark => { s.bayLights b with edgeDue := false }
        | .lit => { s.bayLights b with edgeDue := false }))) ∧
    ((s.bayLights b).timer = 0 →
      ((s.bayLights b).phase = .dark →
        exec (.activityStretchExpiry b.val) s =
          .next (s.setBayLights b { s.bayLights b with phase := .lit, timer := 60 })) ∧
      ((s.bayLights b).phase = .lit →
        exec (.activityStretchExpiry b.val) s =
          .next (s.setBayLights b { s.bayLights b with phase := .none, timer := 0 })))) ∧
  ∀ (s : State) (dst tag : Byte), s.inReset = false → s.loop.position.isSome = true →
    let u := { s with ind := { s.ind with epoch := 0 } }
    (dst = 15#8 → exec (.blinkSync dst tag) s = .next u) ∧
    (Takes s dst → exec (.blinkSync dst tag) s = .next (answered u 9#8 tag .ok []))

/-- R132 to R134: the drive levels of OFF, ON, SLOW, FAST and WINK at epoch e, that of ACTIVITY in the bay's stretch, and those of BREATHE by the steps of the table:
the level k of the rise begins at the first epoch e with 1000 k at most 16 e, and the fall mirrors it. -/
def Obligations.PatternLevels : Prop :=
  ∀ (brightness e : Nat) (phase : StretchPhase),
    let level := levelOf brightness e phase
    level .off = 0 ∧ level .on = brightness ∧ level .slow = (if e % 1000 < 500 then brightness else 0) ∧
    level .fast = (if e % 250 < 125 then brightness else 0) ∧
    level .wink = (if e % 1000 < 100 then brightness else 0) ∧
    level .activity = (if phase = .dark then 0 else brightness) ∧
    ∀ k : Nat, k ≤ 15 →
      (e < 1000 → 1000 * k ≤ 16 * e → (16 * e < 1000 * (k + 1) ∨ k = 15) → level .breathe = brightness * k / 15) ∧
      (1000 ≤ e → e < 2000 → 1000 * k ≤ 16 * (e - 1000) → (16 * (e - 1000) < 1000 * (k + 1) ∨ k = 15) →
        level .breathe = brightness * (15 - k) / 15)

/-- R140, R141: each light takes the first pattern other than PASS from the hold, the matching urgent rules in order, the loop
indicator code and the matching other rules in order, else OFF. R137: the fifteen conditions of a bay, among them the
reported attention of R33. -/
def Obligations.LightTakesFirstOffer : Prop :=
  (∀ (s : State) (b : BayIx) (l : Light),
    let matching := fun (urgent : Bool) =>
      (s.ind.rules.toList.filter fun r =>
        (r.urgent == urgent) && r.required.all (s.condition b) && r.excluded.all fun c => !s.condition b c).map
        fun r => r.patterns.of l
    let hold := match (s.bayLights b).hold with
      | some h => [(s.ind.patterns.get h).of l]
      | none => []
    let offers := hold ++ matching true ++ [(s.ind.patterns.get (s.bayLights b).loopCode).of l] ++ matching false
    resolveLight s b l = ((offers.find? fun p => p ≠ .pass).getD .off)) ∧
  ∀ (s : State) (b : BayIx),
    let x := s.bay b
    let z := s.zone (s.bayCfg b).zone
    let mask := (s.bayCfg b).mask
    let valid := fun (t : TempRec) => t.age < min 65535 (s.scan.staleness * 1000)
    (s.condition b .present = true ↔
      x.state = .idle ∨ x.state = .queued ∨ x.state = .surge ∨ x.state = .run ∨ x.state = .fault ∨
        (x.state = .drain ∧ x.removed = false)) ∧
    (s.condition b .queued = true ↔ x.state = .queued) ∧
    (s.condition b .held = true ↔ x.state = .queued ∧ z.hold = true) ∧
    (s.condition b .surge = true ↔ x.state = .surge) ∧ (s.condition b .running = true ↔ x.state = .run) ∧
    (s.condition b .drain = true ↔ x.state = .drain) ∧ (s.condition b .fault = true ↔ x.state = .fault) ∧
    (s.condition b .resetActive = true ↔ x.state = .surge ∨ (x.state = .run ∧ x.resetHold ≠ none)) ∧
    (s.condition b .attention = true ↔
      s.sup.attentionEnable = true ∧
        ((x.attn.presence = true ∧ mask.presence = true) ∨ (x.attn.power = true ∧ mask.power = true) ∨
          (x.attn.fault = true ∧ mask.fault = true) ∨ (x.attn.resetDone = true ∧ mask.resetDone = true) ∨
          (x.attn.temperature = true ∧ mask.temperature = true))) ∧
    (s.condition b .tempHot = true ↔
      ∃ t, s.temp b = some t ∧ valid t ∧ ∃ c, x.cls = .cls c ∧ 2 * ((s.driveClass c).warn : Int) ≤ t.value) ∧
    (s.condition b .tempStale = true ↔ x.state = .run ∧ ¬ ∃ t, s.temp b = some t ∧ valid t) ∧
    (s.condition b .zoneFanFailed = true ↔ z.fanFailed = true) ∧ (s.condition b .zoneHold = true ↔ z.hold = true) ∧
    (s.condition b .loopLost = true ↔ s.loop.lost = true) ∧ (s.condition b .overdraw = true ↔ s.acct.overdraw = true)

/-- R1, R2, R4, R100, R129, R131, R134, R166, R188: TIMEBASE_TICK takes the events left over from the tick before, each as
its own command would, in the order of log 2, and a resolution of the lights left over last (log 4). Then it takes the
pins, puts the levels of the records and the lights resolved last on the backplane, notes the rising edges of the
activity inputs of populated bays (none at the first scan), counts every timer down by one and every age up by one. It
then resolves the lights, each populated bay's to the levels of its patterns and an absent bay's to dark, and advances
the epoch, or leaves that to the end of the tick (log 4); the first resolution after a full reset is not left (R146).
The duty of the PWM outputs is taken at the tick (log 18). -/
def Obligations.TickCompletes : Prop :=
  ∀ (s : State) (pins : Pins) (l : LightsOrder), s.inReset = false →
    let resolved := fun (x : State) =>
      { x with
        ind :=
          { x.ind with
            levels := Vector.ofFn fun b =>
              let level := fun (k : Light) =>
                levelOf x.ind.brightness x.ind.epoch (x.bayLights b).phase (resolveLight x b k)
              if x.populated b then ⟨level .activity, level .locate, level .fault⟩ else ⟨0, 0, 0⟩
            epoch := (x.ind.epoch + 1) % 2000
            resolutionDue := false } }
    let run := fun (x : State) (c : Instr) => match exec c x with
      | .next t => t
      | .fault _ => x
      | .refused _ => x
    let each := fun (c : Nat → Instr) => allBays.map fun b => c b.val
    let a := ([Instr.goodFrameEnd, .badCheckFrameEnd] ++ each .presenceActive ++ each .presenceLoss ++
      each .powerGoodSeen ++ each .powerGoodLost ++ each .switchFault ++ each .activityStretchExpiry ++
      each .driveActivityEdge).foldl run s
    let e := match allBays.find? fun b => a.populated b && (debounceDue a b || drainDue a b) with
      | some b => run a (if debounceDue a b then .debounceExpiry b.val else .drainExpiry b.val)
      | none => a
    let v := (each .surgeDeadline ++ each .powerGoodDeadline ++ each .resetHoldExpiry ++
      [Instr.staggerBoundary, .coolingUpdate, .conversionEnd] ++ each .temperatureStale ++
      [Instr.loopTimerExpiry]).foldl run e
    let u := if v.ind.resolutionDue then resolved v else v
    let counted : State :=
      { u with
        time := { now := u.time.now + 1 }
        io :=
          { pins := pins
            firstScan := false
            out :=
              { powerEnable := Vector.ofFn fun b =>
                  u.populated b && decide ((u.bay b).state = .surge ∨ (u.bay b).state = .run)
                driveReset := Vector.ofFn fun b =>
                  u.populated b &&
                    decide ((u.bay b).state = .surge ∨ ((u.bay b).state = .run ∧ (u.bay b).resetHold ≠ none))
                lights := u.ind.levels
                pwm := Vector.ofFn fun f => (u.fan f).applied
                pwmCounter := (u.io.out.pwmCounter + 25 * 255) % 255 } }
        sup :=
          { u.sup with
            bays := Vector.ofFn fun b =>
              { u.bay b with
                lookPg := decide ((u.bay b).state = .surge ∨ (u.bay b).state = .run)
                lookSf := decide ((u.bay b).state = .surge ∨ (u.bay b).state = .run)
                debounce := (u.bay b).debounce.map fun n => n - 1
                drain := (u.bay b).drain - 1
                drainDue := (u.bay b).drainDue || decide ((u.bay b).drain = 1)
                resetHold := (u.bay b).resetHold.map fun n => n - 1 } }
        scan :=
          { u.scan with
            slotDue := decide ((u.time.now + 1) % 2 = 0)
            temps := Vector.ofFn fun b => (u.temp b).map fun r => { r with age := min 65535 (r.age + 1) } }
        ind :=
          { u.ind with
            bays := Vector.ofFn fun b =>
              { u.bayLights b with
                edgeDue :=
                  u.populated b && !u.io.firstScan && !(u.seen b).activity && (pins.bays.get b).activity
                timer := (u.bayLights b).timer - 1 } }
        loop := { u.loop with timer := u.loop.timer - 1 } }
    exec (.timebaseTick pins l) s = .next
      (if l = .beforeEvents ∨ u.io.firstScan = true then resolved counted
      else { counted with ind := { counted.ind with resolutionDue := true } })

/-! ### The bay loop -/

/-- R148, R150, R152: the receiver's table but for data bytes within the frame length: what is sent two symbols later, the
next receiver state, and the frame begun, ended or abandoned. The nine bits of a symbol are a data byte where the kind
bit is 0, and else FRAME START (F1 hex), FRAME END (F2), FRAME ABORT (F4), or IDLE for every other control code. Where
the end of an earlier frame has not been taken yet, the symbol takes it first, as its own command would, and then acts
on what that leaves: the model's choice (log 11). -/
def Obligations.ReceiverFollowsTable : Prop :=
  (∀ bits : BitVec 9,
    let code := bits.setWidth 8
    (bits.getLsbD 8 = false → decodeSymbol bits = .data code) ∧
    (bits.getLsbD 8 = true →
      (code = 0xF1#8 → decodeSymbol bits = .frameStart) ∧ (code = 0xF2#8 → decodeSymbol bits = .frameEnd) ∧
      (code = 0xF4#8 → decodeSymbol bits = .frameAbort) ∧
      (code ≠ 0xF1#8 → code ≠ 0xF2#8 → code ≠ 0xF4#8 → decodeSymbol bits = .idle))) ∧
  (∀ (s : State) (bits : BitVec 9) (good : Bool), s.inReset = false → s.loop.clock = true →
    s.loop.frameEnd = some good →
    ∃ u t, exec (if good then .goodFrameEnd else .badCheckFrameEnd) s = .next u ∧ u.inReset = false ∧
      u.loop.clock = true ∧ u.loop.frameEnd = none ∧ exec (.loopSymbol bits) u = .next t ∧
      exec (.loopSymbol bits) s = .next t) ∧
  ∀ (s : State) (bits : BitVec 9), s.inReset = false → s.loop.clock = true → s.loop.frameEnd = none →
    let x := decodeSymbol bits
    let f := s.loop.frame
    let atEnd := 3 ≤ f.count ∧ f.count = 36 + 2 * f.slots.toNat
    let sends := fun (y : LoopSym) (r : Receiver) (frame : Frame) (ended : Option Bool) (placed : Bool) =>
      exec (.loopSymbol bits) s = .next
        { s with
          loop :=
            { s.loop with
              receiver := r, frame := frame, frameEnd := ended, replyPlaced := placed
              sent := itemSymbol s s.loop.tx.first
              tx :=
                { s.loop.tx with
                  first := s.loop.tx.second, second := .sym y
                  crc := sentCrc s.loop.tx.crc s.loop.tx.first (itemSymbol s s.loop.tx.first) } } }
    (s.loop.receiver = .between →
      (x = .frameStart → sends .frameStart .inFrame emptyFrame none false) ∧
      (x ≠ .frameStart → sends .idle .between f none s.loop.replyPlaced)) ∧
    (s.loop.receiver = .discard →
      sends .idle (if x = .idle then .between else .discard) f none s.loop.replyPlaced) ∧
    (s.loop.receiver = .inFrame →
      (x = .frameEnd → atEnd → sends .frameEnd .between f (some s.loop.tx.good) s.loop.replyPlaced) ∧
      (x = .frameEnd → ¬ atEnd → sends .frameAbort .between emptyFrame none s.loop.replyPlaced) ∧
      (x = .frameAbort ∨ x = .idle → sends .frameAbort .between emptyFrame none s.loop.replyPlaced) ∧
      (x = .frameStart → sends .frameAbort .discard emptyFrame none s.loop.replyPlaced) ∧
      (∀ b, x = .data b → 3 ≤ f.count → 36 + 2 * f.slots.toNat ≤ f.count →
        sends .frameAbort .discard emptyFrame none s.loop.replyPlaced))

/-- R154: every part, placed or not, sends the hop count byte as received plus one, 255 as 255, and judges the frame by the hop
count as received. R151: the flags byte and the slot count are taken and forwarded as received. -/
def Obligations.HopCountRewritten : Prop :=
  ∀ (s : State) (b : Byte), s.inReset = false → s.loop.clock = true → s.loop.frameEnd = none →
    s.loop.receiver = .inFrame →
    let f := s.loop.frame
    let sends := fun (y : Byte) (frame : Frame) =>
      ∃ t, exec (.loopSymbol (b.setWidth 9)) s = .next t ∧ t.loop.tx.second = .sym (.data y) ∧
        t.loop.frame = { frame with count := f.count + 1, crc := crcByte f.crc b }
    (f.count = 0 → sends b { f with flags := b }) ∧
    (f.count = 1 → sends (if b = 255#8 then 255#8 else b + 1#8) { f with hop := b }) ∧
    (f.count = 2 → sends b { f with slots := b })

/-- R157, R159, R162, R164: in the slot area, from its first byte on under the map that stands then, the request byte of a
slot a local bay owns is captured and forwarded, and its status byte is replaced by that bay's status; other slots
pass. A reply is written into an empty reply cell by a placed part that holds one, and marked as placed. A request cell
for the part or for all parts is captured, and every request cell is forwarded as received. -/
def Obligations.SlotAndCellBytesTaken : Prop :=
  ∀ (s : State) (x : Byte), s.inReset = false → s.loop.clock = true → s.loop.frameEnd = none →
    s.loop.receiver = .inFrame →
    let f := s.loop.frame
    let captured := fun (map : Vector (Option Nat) 24) (k : Nat) =>
      f.requests ++
        (match ownerOf map k with
        | some b => [(b, x)]
        | none => [])
    let gives := fun (item : TxItem) (holds : State → Prop) =>
      ∃ t, exec (.loopSymbol (x.setWidth 9)) s = .next t ∧ t.loop.tx.second = item ∧ holds t
    (0 < f.slots.toNat → f.count = 19 →
      let map := if s.loop.position.isSome then s.loop.slotMap else noSlots
      gives (.sym (.data x)) fun t => t.loop.frame.map = map ∧ t.loop.frame.requests = captured map 0) ∧
    (∀ k : Nat, k < f.slots.toNat → 0 < k → f.count = 19 + 2 * k →
      gives (.sym (.data x)) fun t => t.loop.frame.map = f.map ∧ t.loop.frame.requests = captured f.map k) ∧
    (∀ k : Nat, k < f.slots.toNat → f.count = 20 + 2 * k →
      gives (match ownerOf f.map k with
        | some b => .status b
        | none => .sym (.data x)) fun t => t.loop.frame.requests = f.requests) ∧
    (∀ (p : Fin 8) (r : Reply), f.count = 3 → s.loop.position = some p → s.loop.reply = some r →
      (x = 14#8 → gives (.sym (.data (b8 p.val))) fun t => t.loop.replyPlaced = true ∧
        t.loop.frame.placing = [b8 p.val, r.kind, r.tag, r.result.code] ++ r.data.toList) ∧
      (x ≠ 14#8 → gives (.sym (.data (f.placing.getD 0 x))) fun t => t.loop.replyPlaced = s.loop.replyPlaced ∧
        t.loop.frame.placing = f.placing)) ∧
    (f.count = 3 → s.loop.position = none ∨ s.loop.reply = none →
      gives (.sym (.data (f.placing.getD 0 x))) fun t => t.loop.replyPlaced = s.loop.replyPlaced ∧
        t.loop.frame.placing = f.placing) ∧
    (∀ i : Nat, i < 15 → f.count = 4 + i → gives (.sym (.data (f.placing.getD (i + 1) x))) fun _ => True) ∧
    (f.count = 19 + 2 * f.slots.toNat →
      gives (.sym (.data x)) fun t => t.loop.frame.cell =
        if ∃ p : Fin 8, s.loop.position = some p ∧ (x.toNat = p.val ∨ x = 15#8) then some [x] else f.cell) ∧
    (∀ i : Nat, i < 14 → f.count = 20 + 2 * f.slots.toNat + i →
      gives (.sym (.data x)) fun t => t.loop.frame.cell = f.cell.map fun c => c ++ [x])

/-- R153, R159, 10 section 10.1: every symbol of a running loop clock sends the oldest item of the delay line: a symbol as it
is, a status byte with the bay's state, attention, held, temperature valid, indicator hold and drive reset as they stand,
and in place of the two check bytes the check over the bytes sent, complemented where the incoming check was not good.
The check register over the bytes sent starts at all ones when FRAME START is sent; every data byte sent is shifted
through it, most significant bit first with generator x^16 + x^12 + x^5 + 1, but for the two check bytes. The register
over the bytes received starts at all ones with the frame and takes every byte before the check; the incoming check is
good if the two received check bytes equal it. A complemented check never equals the check. Where a frame is abandoned
right after its first check byte, no check of it has been judged, and its high byte goes out under the judgement of the
frame before, or as good where there was none since the reset: the model's choice (log 31, log 9). -/
def Obligations.CheckIsOfBytesSent : Prop :=
  let through := fun (c : BitVec 16) (x : Byte) =>
    (List.range 8).foldl
      (fun (c : BitVec 16) i => if (c.getLsbD 15 ^^ x.getLsbD (7 - i)) = true then (c <<< 1) ^^^ 0x1021#16 else c <<< 1)
      c
  let status := fun (s : State) (b : BayIx) =>
    let x := s.bay b
    let state : Byte := match x.state with
      | .empty => 0#8 | .settling => 1#8 | .idle => 2#8 | .queued => 3#8
      | .surge => 4#8 | .run => 5#8 | .drain => 6#8 | .fault => 7#8
    let valid := match s.temp b with
      | some t => decide (t.age < min 65535 (s.scan.staleness * 1000))
      | none => false
    state * 32#8 + (if s.reportedAttention b then 16#8 else 0#8) +
      (if x.state = .queued ∧ (s.zone (s.bayCfg b).zone).hold = true then 8#8 else 0#8) +
      (if valid then 4#8 else 0#8) + (if (s.bayLights b).hold ≠ none then 2#8 else 0#8) +
      (if x.state = .surge ∨ (x.state = .run ∧ x.resetHold ≠ none) then 1#8 else 0#8)
  emptyFrame.crc = 0xFFFF#16 ∧
  (∀ (s : State) (bits : BitVec 9), s.inReset = false → s.loop.clock = true → s.loop.frameEnd = none →
    let tx := s.loop.tx
    ∃ t, exec (.loopSymbol bits) s = .next t ∧
      (let check := if t.loop.tx.good then tx.crc else ~~~tx.crc
      t.loop.sent =
        (match tx.first with
        | .sym y => y
        | .status b => .data (status s b)
        | .checkHigh => .data ((check >>> 8).setWidth 8)
        | .checkLow => .data (check.setWidth 8))) ∧
      t.loop.tx.crc =
        (match tx.first, t.loop.sent with
        | .checkHigh, _ => tx.crc
        | .checkLow, _ => tx.crc
        | _, .frameStart => 0xFFFF#16
        | _, .data x => through tx.crc x
        | _, .frameEnd => tx.crc
        | _, .frameAbort => tx.crc
        | _, .idle => tx.crc) ∧
      t.loop.tx.first = tx.second) ∧
  (∀ (s : State) (x : Byte), s.inReset = false → s.loop.clock = true → s.loop.frameEnd = none →
    s.loop.receiver = .inFrame →
    let f := s.loop.frame
    let n := 34 + 2 * f.slots.toNat
    (f.count < 3 ∨ f.count < n →
      ∃ t, exec (.loopSymbol (x.setWidth 9)) s = .next t ∧ t.loop.frame.crc = through f.crc x ∧
        t.loop.tx.second ≠ .checkHigh ∧ t.loop.tx.second ≠ .checkLow ∧ t.loop.tx.good = s.loop.tx.good) ∧
    (3 ≤ f.count → f.count = n →
      ∃ t, exec (.loopSymbol (x.setWidth 9)) s = .next t ∧ t.loop.tx.second = .checkHigh ∧
        t.loop.frame.checkHigh = x ∧ t.loop.frame.crc = f.crc ∧ t.loop.tx.good = s.loop.tx.good) ∧
    (3 ≤ f.count → f.count = n + 1 →
      ∃ t, exec (.loopSymbol (x.setWidth 9)) s = .next t ∧ t.loop.tx.second = .checkLow ∧
        (t.loop.tx.good = true ↔ f.checkHigh ++ x = f.crc))) ∧
  ∀ c : BitVec 16, ~~~c ≠ c

/-- R155, R156, R160, R166, R185: a good frame end takes its steps in order: at a placed part the placed reply is released,
the pending requests are applied and the request cell is handed over; at every part the loop timer restarts, LOOP_LOST
ends, and a TRAINING frame latches the position from its hop count, resolving the slot map again when the position
changes. A FULL reset taken from the cell replaces the steps after it. The frame end marked as due and the attempts
of steps 2 and 3 are the model's (log 11, 13), and so is the reading that a TRAINING frame that carries a LOOP reset
latches the position again at its own end (log 33, DEDUCED). -/
def Obligations.GoodFrameEndCompletes : Prop :=
  ∀ s : State, s.inReset = false → s.loop.frameEnd = some true →
    let a : State :=
      if s.loop.position.isSome then
        applyRequests
          { s with
            loop :=
              { s.loop with
                frameEnd := none
                reply := if s.loop.replyPlaced then none else s.loop.reply
                replyPlaced := false } }
      else { s with loop := { s.loop with frameEnd := none } }
    let h : State :=
      match s.loop.frame.cell with
      | some c => if s.loop.position.isSome then handCell c a else a
      | none => a
    let u : State := { h with loop := { h.loop with timer := h.loop.timeout * 100, lost := false } }
    let p : Option (Fin 8) :=
      if h : s.loop.frame.hop.toNat < 8 then some ⟨s.loop.frame.hop.toNat, h⟩ else none
    ((s.loop.position = none ∨ ∀ c, s.loop.frame.cell = some c → takesFullReset c a = false) →
      exec .goodFrameEnd s = .next
        (if s.loop.frame.flags.getLsbD 7 = true ∧ h.loop.position ≠ p then
          resolveMap { u with loop := { u.loop with position := p } }
        else u)) ∧
    ∀ c, s.loop.position.isSome = true → s.loop.frame.cell = some c → takesFullReset c a = true →
      exec .goodFrameEnd s = .next (fullReset .message a)

/-- R143, R161: one pair of the pending-request set with its valid bit set gives the bay the indicator code, and the intent
where it differs, with the desire evaluated and acted on; a clear valid bit changes nothing. R49: where the pairs of one
frame bring several bays to the queue together, those of IDLE bays that are not expedited are appended in ascending
number, then those expedited by the request or before it, QUEUED ones withdrawn first, are pushed at the head in
ascending number, and one attempt is made. 10, section 10.1: bits 6 to 5 of a request byte are the power intent, 0
FOLLOW, 1 ON, 2 OFF, 3 ON-EXPEDITE, and bits 4 to 0 the indicator code. -/
def Obligations.SlotRequestApplied : Prop :=
  (∀ r : Byte,
    requestIntent r =
      (match r.getLsbD 6, r.getLsbD 5 with
      | false, false => .follow
      | false, true => .on
      | true, false => .off
      | true, true => .onExpedite) ∧
    (requestCode r).val = r.toNat % 32) ∧
  (∀ s : State,
    let q := s.loop.frame.requests
    let head := fun (p : BayIx × Byte) => decide (requestIntent p.2 = .onExpedite) || (s.bay p.1).expedite
    let heads := (q.filter head).map (·.1)
    let tails := (q.filter fun p => !head p).map (·.1)
    QueueMatches s → q ≠ [] → (q.map (·.1)).Nodup →
    (∀ p ∈ q, p.2.getLsbD 7 = true ∧ (s.bay p.1).mgmtIntent = .none ∧ (s.bay p.1).loopIntent ≠ requestIntent p.2 ∧
      (requestIntent p.2 = .on ∨ requestIntent p.2 = .onExpedite) ∧
      ((s.bay p.1).state = .idle ∨ ((s.bay p.1).state = .queued ∧ head p = true)) ∧
      ∃ k, (s.bay p.1).cls = .cls k ∧ ((s.driveClass k).surge : Int) ≤ s.acct.ceiling - s.acct.guardBand) →
    ∃ u, applyRequests s = attempt u ∧
      u = { s with
        sup := { s.sup with bays := u.sup.bays }
        ind := { s.ind with bays := u.ind.bays }
        sched :=
          { s.sched with
            queue := (allBays.filter fun b => decide (b ∈ heads)).reverse ++
              (s.sched.queue.filter fun b => decide (b ∉ heads)) ++ allBays.filter fun b => decide (b ∈ tails) } } ∧
      (∀ p ∈ q, u.bay p.1 = { s.bay p.1 with state := .queued, loopIntent := requestIntent p.2, expedite := false } ∧
        u.bayLights p.1 = { s.bayLights p.1 with loopCode := requestCode p.2 }) ∧
      ∀ b : BayIx, b ∉ q.map (·.1) → u.bay b = s.bay b ∧ u.bayLights b = s.bayLights b) ∧
  ∀ (s : State) (b : BayIx) (r : Byte), s.loop.frame.requests = [(b, r)] →
    let u := s.setBayLights b { s.bayLights b with loopCode := requestCode r }
    (r.getLsbD 7 = false → applyRequests s = s) ∧
    (r.getLsbD 7 = true → (s.bay b).loopIntent = requestIntent r → applyRequests s = u) ∧
    (r.getLsbD 7 = true → (s.bay b).loopIntent ≠ requestIntent r →
      applyRequests s = obeyed u b { s.bay b with loopIntent := requestIntent r })

/-- R168 and the kinds of 10, section 10.3: a captured request cell does at step 3 what the message command of its
kind does. A kind that names none is answered BAD_KIND, and an action of BAY POWER above 5 or a scope of PART RESET
above 2 BAD_ARGUMENT (R169, R182); sent to all parts, each of the three is ignored (R170). That a row is such a
hand-over is the model's choice (log 12). -/
def Obligations.CellRunsItsMessage : Prop :=
  ∀ (s : State) (d tag a0 a1 a2 a3 a4 a5 a6 a7 a8 a9 a10 a11 : Byte), s.inReset = false →
    let cell := fun (kind : Byte) => [d, kind, tag, a0, a1, a2, a3, a4, a5, a6, a7, a8, a9, a10, a11]
    let does := fun (kind : Byte) (c : Instr) => exec c s = .next (handCell (cell kind) s)
    does 1#8 (.identify d tag) ∧ does 2#8 (.bayRead d tag a0) ∧
    (a1 = 0#8 → does 3#8 (.bayPowerOn d tag a0)) ∧ (a1 = 1#8 → does 3#8 (.bayPowerExpedite d tag a0)) ∧
    (a1 = 2#8 → does 3#8 (.bayPowerOff d tag a0)) ∧ (a1 = 3#8 → does 3#8 (.bayPowerRelease d tag a0)) ∧
    (a1 = 4#8 → does 3#8 (.bayPowerCycle d tag a0)) ∧ (a1 = 5#8 → does 3#8 (.bayPowerClear d tag a0)) ∧
    does 4#8 (.bayReset d tag a0) ∧ does 5#8 (.bayClass d tag a0 a1) ∧
    does 6#8 (.attentionClear d tag a0 a1 a2) ∧ does 7#8 (.attentionMask d tag a0 a1 a2 a3) ∧
    does 8#8 (.indicatorHold d tag a0 a1 a2) ∧ (a2 = 255#8 → does 8#8 (.indicatorHoldRelease d tag a0 a1)) ∧
    does 9#8 (.blinkSync d tag) ∧
    does 10#8 (.driveTemperature d tag a0 (a1 ++ a2) (a3 ++ a4) (a5 ++ a6)) ∧
    does 11#8 (.tableWindow d tag a0 a1 a2) ∧
    does 12#8 (.tablePut d tag a0 [a1, a2, a3, a4, a5, a6, a7, a8, a9, a10, a11]) ∧
    does 13#8 (.tableGet d tag a0) ∧ does 14#8 (.curveActivate d tag a0) ∧ does 15#8 (.powerRead d tag a0) ∧
    does 16#8 (.queueRead d tag a0) ∧ does 17#8 (.fanRead d tag a0) ∧ does 18#8 (.sensorRead d tag a0) ∧
    does 19#8 (.zoneRead d tag a0) ∧ (a0 = 0#8 → does 20#8 (.partResetLoop d tag)) ∧
    (a0 = 1#8 → does 20#8 (.partResetTables d tag)) ∧ (a0 = 2#8 → does 20#8 (.partResetFull d tag)) ∧
    (let refused := fun (kind : Byte) (result : Result) =>
      (Takes s d → handCell (cell kind) s = answered s kind tag result []) ∧ (d = 15#8 → handCell (cell kind) s = s)
    (∀ kind : Byte, kind = 0#8 ∨ 20 < kind.toNat → refused kind .badKind) ∧
    (5 < a1.toNat → refused 3#8 .badArgument) ∧ (2 < a0.toNat → refused 20#8 .badArgument))

/-- R149, R152, R163: a bad frame end discards the capture and does nothing else; a loop break abandons a frame in progress,
stops the clock and leaves IDLE to be sent (log 9), an earlier frame end that has not been taken being taken first, as its
own command would take it (log 11); the clock's return finds the receiver in DISCARD. R166: LOOP_TIMER_EXPIRY makes
LOOP_LOST true and changes nothing else. -/
def Obligations.LoopEventsComplete : Prop :=
  ∀ s : State, s.inReset = false →
    (s.loop.frameEnd = some false →
      exec .badCheckFrameEnd s = .next { s with loop := { s.loop with frameEnd := none, frame := emptyFrame } }) ∧
    (s.loop.frameEnd = none →
      exec .loopBreak s = .next
        { s with
          loop :=
            { s.loop with
              receiver := .discard, clock := false
              frame := if s.loop.receiver = .inFrame then emptyFrame else s.loop.frame
              tx := { s.loop.tx with first := .sym .idle, second := .sym .idle } } }) ∧
    (∀ good, s.loop.frameEnd = some good →
      ∃ u t, exec (if good then .goodFrameEnd else .badCheckFrameEnd) s = .next u ∧ u.inReset = false ∧
        u.loop.frameEnd = none ∧ exec .loopBreak u = .next t ∧ exec .loopBreak s = .next t) ∧
    (s.loop.clock = false →
      exec .loopClockReturn s = .next { s with loop := { s.loop with clock := true, receiver := .discard } }) ∧
    (s.loop.timer = 0 → s.loop.lost = false →
      exec .loopTimerExpiry s = .next { s with loop := { s.loop with lost := true } })

/-! ### Management messages -/

/-- R51, R82, R94, R125, R126, R171, R172, R173: the reading requests answer with the figures as they stand, in the layouts of
10, section 10.3; IDENTIFY clears the reply-overrun flag, and the others leave the part as it was. A record is valid while
its age is below the effective staleness limit (R95). The committed draw is the sum of the class currents of the bays in
SURGE and RUN, and the headroom the ceiling less the guard, the committed draw and the fan reserve (R66, R67, R72). The
codes of the replies are those of 10, section 10.3, a number of two bytes goes most significant byte first, and the data
bytes that a layout does not use are 0 (R194). -/
def Obligations.ReadingRequestsAnswer : Prop :=
  ([BayState.empty, .settling, .idle, .queued, .surge, .run, .drain, .fault].map (·.code) =
      [0#8, 1#8, 2#8, 3#8, 4#8, 5#8, 6#8, 7#8] ∧
    [FaultCause.none, .unsupportedCarrier, .budget, .noPowerGood, .powerLost, .overcurrent, .overtemp].map (·.code) =
      [0, 1, 2, 3, 4, 5, 6] ∧
    (∀ c : ClassIx, (BayClass.cls c).code = BitVec.ofNat 8 c.val) ∧
    BayClass.blank.code = 14#8 ∧ BayClass.unresolved.code = 255#8 ∧
    [LoopIntent.follow, .on, .off, .onExpedite].map (·.code) = [0, 1, 2, 3] ∧
    [MgmtIntent.none, .on, .off].map (·.code) = [0, 1, 2] ∧
    [FanState.normal, .failed, .disabled].map (·.code) = [0#8, 1#8, 2#8] ∧
    [DemandSource.curve, .fallback, .fanFailed, .critical].map (·.code) = [0#8, 1#8, 2#8, 3#8] ∧
    [ResetCause.powerOn, .pin, .message].map (·.code) = [0#8, 1#8, 2#8] ∧
    [Result.ok, .okClamped, .badKind, .badArgument, .notPresent, .notRunning, .notPowered, .notFaulted, .busy,
        .duplicateSlot, .readOnly, .noWindow, .pointerMismatch, .invalidCurve].map (·.code) =
      [0#8, 1#8, 2#8, 3#8, 4#8, 5#8, 6#8, 7#8, 8#8, 9#8, 10#8, 11#8, 12#8, 13#8]) ∧
  (∀ a : AttnSet, encodeAttn a =
    (if a.presence then 1#8 else 0#8) + (if a.power then 2#8 else 0#8) + (if a.fault then 4#8 else 0#8) +
      (if a.resetDone then 8#8 else 0#8) + (if a.temperature then 16#8 else 0#8)) ∧
  (∀ (n : Nat) (v : Int), b16 n = [BitVec.ofNat 8 (n / 256), BitVec.ofNat 8 n] ∧
    s16 v = [(BitVec.ofInt 16 v >>> 8).setWidth 8, (BitVec.ofInt 16 v).setWidth 8]) ∧
  (∀ (l : List Byte) (i : Fin 12), (dataBytes l).get i = l.getD i.val 0#8) ∧
  ∀ (s : State) (dst tag : Byte), Takes s dst →
    let valid := fun (b : BayIx) => match s.temp b with
      | some t => decide (t.age < min 65535 (s.scan.staleness * 1000))
      | none => false
    let draw := fun (b : BayIx) => match (s.bay b).cls, (s.bay b).state with
      | .cls c, .surge => (s.driveClass c).surge
      | .cls c, .run => (s.driveClass c).run
      | _, _ => 0
    let committed : Nat := (allBays.map draw).sum
    let headroom : Int := (s.acct.ceiling : Int) - s.acct.guardBand - committed - s.acct.fanReserve
    (exec (.identify dst tag) s = .next (answered { s with loop := { s.loop with overrun := false } } 1#8 tag .ok
      [0x57#8, 0x10#8, 0x24#8, 0x08#8, 3#8, dst,
        bitIf true 0 ||| bitIf s.loop.mapConflict 1 ||| bitIf s.loop.overrun 2 ||| bitIf s.loop.lost 3,
        b8 s.rst.straps.bayCount, b8 s.rst.straps.ceilingCode.toNat, s.rst.cause.code])) ∧
    (∀ b : BayIx, s.populated b = true →
      exec (.bayRead dst tag (b8 b.val)) s = .next (answered s 2#8 tag .ok
        ([((s.bay b).state.code <<< 5) ||| b8 (s.bay b).cause.code, (s.bay b).cls.code,
          b8 (s.bay b).carrier.toNat, encodeAttn (s.bay b).attn,
          b8 ((s.bay b).loopIntent.code * 64 + (s.bay b).mgmtIntent.code * 16 + (s.bay b).retries * 4 +
            (if (s.bayCfg b).policy = .auto then 2 else 0) +
            if wants (s.bayCfg b).policy (s.bay b) then 1 else 0),
          bitIf ((s.bay b).state = .queued && s.zoneHeld b) 0 ||| bitIf (s.bay b).expedite 1 |||
            bitIf (s.temp b).isSome 2 ||| bitIf (valid b) 3] ++
        b16 (s.bay b).drain ++
        (match s.temp b with
        | some t => s16 t.value ++ b16 t.age
        | none => [0#8, 0#8, 0#8, 0#8])))) ∧
    exec (.powerRead dst tag 0#8) s = .next (answered s 15#8 tag .ok
      (b16 s.acct.ceiling ++ b16 s.acct.guardBand ++ b16 committed ++ b16 s.acct.fanReserve ++
        b16 (if headroom < 0 then 0 else headroom.toNat) ++
        b16 (if headroom < 0 then min 65535 (-headroom).toNat else 0))) ∧
    exec (.powerRead dst tag 1#8) s = .next (answered s 15#8 tag .ok
      (b16 (s.channel 8).value.toNat ++
        [bitIf (s.channel 8).valid 0 ||| bitIf s.acct.overdraw 1 ||| bitIf s.sched.generation 2,
          b8 s.sched.queue.length] ++
        b16 s.sched.frameNumber ++ [b8 s.sched.admissions] ++ b16 s.sched.pace.interval ++ [b8 s.sched.pace.limit])) ∧
    (∀ o : Byte, o.toNat ≤ 23 →
      ∃ data, exec (.queueRead dst tag o) s = .next (answered s 16#8 tag .ok data) ∧ data.length = 11 ∧
        data.getD 0 0#8 = b8 s.sched.queue.length ∧
        ∀ i : Nat, i < 10 → data.getD (i + 1) 0#8 =
          (match s.sched.queue[o.toNat + i]? with
          | some b => b8 b.val
          | none => 255#8)) ∧
    (∀ f : FanIx, exec (.fanRead dst tag (b8 f.val)) s = .next (answered s 17#8 tag .ok
      ([(s.fan f).state.code, b8 (s.fan f).target, b8 (s.fan f).applied] ++ b16 (s.fan f).tach ++
        b16 (s.fan f).rpm ++
        [b8 (s.fan f).low, b8 (s.fan f).good, bitIf (s.fan f).checked 0 ||| bitIf (s.fanCfg f).enabled 1,
          b8 (s.fanCfg f).zone.val]))) ∧
    (∀ ch : ChannelIx, exec (.sensorRead dst tag (b8 ch.val)) s = .next (answered s 18#8 tag .ok
      (b16 (s.channel ch).raw ++ b16 (s.channel ch).corrected ++ s16 (s.channel ch).value ++
        [bitIf (s.channel ch).valid 0 ||| bitIf (s.sensor ch).enabled 1,
          match (s.sensor ch).zone with
          | some z => b8 z.val
          | none => 255#8]))) ∧
    ∀ z : ZoneIx, exec (.zoneRead dst tag (b8 z.val)) s = .next (answered s 19#8 tag .ok
      (s16 ((s.zone z).temp.getD 0) ++
        [b8 (s.zone z).inputs, b8 (s.zone z).demand, (s.zone z).source.code,
          bitIf (s.zone z).temp.isSome 0 ||| bitIf (s.zone z).fanFailed 1 ||| bitIf (s.zone z).hold 2] ++
        s16 (s.zoneCfg z).holdTemp ++ [b8 (s.zoneCfg z).driveOffset, b8 (s.zoneCfg z).fallback]))

/-- R12, R13, R30, R48: BAY POWER ON, OFF, RELEASE and EXPEDITE: NOT_PRESENT in EMPTY; elsewhere OK, the intent stored
and the desire evaluated and acted on before the reply is built. That an accepted intent equal to the one held evaluates
the desire as well is R12's (log 26). -/
def Obligations.BayPowerIntentsComplete : Prop :=
  ∀ (s : State) (dst tag : Byte) (b : BayIx), Takes s dst → s.populated b = true →
    let gives := fun (c : Instr) (x : Bay) =>
      exec c s = .next
        (if (s.bay b).state = .empty then answered s 3#8 tag .notPresent []
        else answered (obeyed s b x) 3#8 tag .ok [])
    gives (.bayPowerOn dst tag (b8 b.val)) { s.bay b with mgmtIntent := .on } ∧
    gives (.bayPowerOff dst tag (b8 b.val)) { s.bay b with mgmtIntent := .off } ∧
    gives (.bayPowerRelease dst tag (b8 b.val)) { s.bay b with mgmtIntent := .none } ∧
    gives (.bayPowerExpedite dst tag (b8 b.val)) { s.bay b with mgmtIntent := .on, expedite := true }

/-- R19, R28, R30: BAY POWER CYCLE removes power into DRAIN with the expedite flag set, and is NOT_RUNNING outside SURGE and RUN;
CLEAR leaves FAULT, and is NOT_FAULTED elsewhere. A drain timer at 0 whose expiry has not been taken counts as running:
the model's reading (log 17, DEDUCED). That a CLEAR whose class resolution gives UNSUPPORTED evaluates no desire on its way
back to FAULT is the model's reading as well (log 34, DEDUCED). -/
def Obligations.BayPowerCycleAndClearComplete : Prop :=
  ∀ (s : State) (dst tag : Byte) (b : BayIx), Takes s dst → s.populated b = true →
    let x := { s.bay b with cause := .none, retries := 0 }
    exec (.bayPowerCycle dst tag (b8 b.val)) s = .next
      (if (s.bay b).state = .surge ∨ (s.bay b).state = .run then
        answered (drained s b { s.bay b with expedite := true }) 3#8 tag .ok []
      else answered s 3#8 tag .notRunning []) ∧
    exec (.bayPowerClear dst tag (b8 b.val)) s = .next
      (if (s.bay b).state = .fault then
        (if x.drain ≠ 0 ∨ x.drainDue = true then
          answered (s.setBay b { x with state := .drain, removed := false }) 3#8 tag .ok []
        else if x.presence then answered (intoIdle s b x) 3#8 tag .ok []
        else answered (s.setBay b (emptied x)) 3#8 tag .ok [])
      else answered s 3#8 tag .notFaulted [])

/-- R21: BAY RESET starts or restarts the reset hold timer in RUN, at 10 ms where the class reset hold is 0, and is NOT_RUNNING
elsewhere. R31: BAY CLASS is BUSY in SURGE, RUN and DRAIN, stores the override elsewhere, and resolves the class again
in IDLE and QUEUED; a class value that is neither 0 to 7 nor none is refused. -/
def Obligations.BayResetAndClassComplete : Prop :=
  ∀ (s : State) (dst tag cls : Byte) (b : BayIx) (c : ClassIx), Takes s dst → s.populated b = true →
    ((s.bay b).state = .run → (s.bay b).cls = .cls c →
      exec (.bayReset dst tag (b8 b.val)) s = .next (answered
        (s.setBay b
          { s.bay b with
            resetHold := some (if (s.driveClass c).resetHold = 0 then 10 else (s.driveClass c).resetHold * 10) })
        4#8 tag .ok [])) ∧
    ((s.bay b).state ≠ .run → exec (.bayReset dst tag (b8 b.val)) s = .next (answered s 4#8 tag .notRunning [])) ∧
    (8 ≤ cls.toNat → cls ≠ 255#8 →
      exec (.bayClass dst tag (b8 b.val) cls) s = .next (answered s 5#8 tag .badArgument [])) ∧
    ∀ o : Option ClassIx, (match o with | some k => cls = b8 k.val | none => cls = 255#8) →
      exec (.bayClass dst tag (b8 b.val) cls) s = .next
        (if (s.bay b).state = .surge ∨ (s.bay b).state = .run ∨ (s.bay b).state = .drain then
          answered s 5#8 tag .busy []
        else answered (resolvedAgain (s.setBayCfg b { s.bayCfg b with override := o }) b) 5#8 tag .ok [])

/-- R34, R144, R170: ATTENTION CLEAR, ATTENTION MASK and INDICATOR HOLD with its release act on the populated bays of a window,
an end above the last populated bay being taken as it, when sent to the part (then answered OK) and when broadcast
(never answered); a window that runs backwards or starts above the last populated bay changes no bay. -/
def Obligations.WindowMessagesComplete : Prop :=
  ∀ (s : State) (dst tag start stop : Byte), s.inReset = false → s.loop.position.isSome = true →
    (dst = 15#8 ∨ Takes s dst) →
    let inWindow := fun (b : BayIx) => start.toNat ≤ b.val ∧ b.val ≤ stop.toNat ∧ s.populated b = true
    let good := start.toNat ≤ stop.toNat ∧ start.toNat < s.rst.straps.bayCount
    let replies := fun (kind : Byte) (r : Result) (u : State) => if dst = 15#8 then u else answered u kind tag r []
    (∀ kinds : AttnSet, good →
      ∃ u, exec (.attentionClear dst tag start stop (encodeAttn kinds)) s = .next (replies 6#8 .ok u) ∧
        u = { s with sup := { s.sup with bays := u.sup.bays } } ∧
        ∀ b, (inWindow b → u.bay b = { s.bay b with attn := (s.bay b).attn.diff kinds }) ∧
          (¬ inWindow b → u.bay b = s.bay b)) ∧
    (∀ add del : AttnSet, good →
      ∃ u, exec (.attentionMask dst tag start stop (encodeAttn add) (encodeAttn del)) s = .next (replies 7#8 .ok u) ∧
        u = { s with sup := { s.sup with cfg := u.sup.cfg } } ∧
        ∀ b, (inWindow b → u.bayCfg b = { s.bayCfg b with mask := ((s.bayCfg b).mask.union add).diff del }) ∧
          (¬ inWindow b → u.bayCfg b = s.bayCfg b)) ∧
    (∀ (c : Instr) (h : Option (Fin 32)), good →
      (match h with
      | some k => c = .indicatorHold dst tag start stop (b8 k.val)
      | none => c = .indicatorHoldRelease dst tag start stop) →
      ∃ u, exec c s = .next (replies 8#8 .ok u) ∧
        u = { s with ind := { s.ind with bays := u.ind.bays } } ∧
        ∀ b, (inWindow b → u.bayLights b = { s.bayLights b with hold := h }) ∧
          (¬ inWindow b → u.bayLights b = s.bayLights b)) ∧
    (∀ kinds setMask clearMask code : Byte, ¬ good →
      exec (.attentionClear dst tag start stop kinds) s = .next (replies 6#8 .badArgument s) ∧
      exec (.attentionMask dst tag start stop setMask clearMask) s = .next (replies 7#8 .badArgument s) ∧
      exec (.indicatorHold dst tag start stop code) s = .next (replies 8#8 .badArgument s) ∧
      exec (.indicatorHoldRelease dst tag start stop) s = .next (replies 8#8 .badArgument s)) ∧
    ∀ kinds other code : Byte, 32 ≤ kinds.toNat → 32 ≤ code.toNat → code ≠ 255#8 →
      exec (.attentionClear dst tag start stop kinds) s = .next (replies 6#8 .badArgument s) ∧
      exec (.attentionMask dst tag start stop kinds other) s = .next (replies 7#8 .badArgument s) ∧
      exec (.attentionMask dst tag start stop other kinds) s = .next (replies 7#8 .badArgument s) ∧
      exec (.indicatorHold dst tag start stop code) s = .next (replies 8#8 .badArgument s)

/-- R22, R96 to R98, R195: DRIVE TEMPERATURE names a populated first bay and three positions; each report for a populated bay in
RUN is taken and answered OK or OK_CLAMPED, and the others are answered by what stands in their way: no report (8000
hex), BAD_ARGUMENT, NOT_POWERED. A cut is followed by an attempt. An absent first bay refuses the message. -/
def Obligations.DriveTemperatureCompletes : Prop :=
  ∀ (s : State) (dst tag first : Byte) (v0 v1 v2 : BitVec 16), Takes s dst →
    let takes := fun (i : Nat) (v : BitVec 16) (u : State) =>
      if h : first.toNat + i < 24 then
        (if v ≠ 0x8000#16 ∧ s.populated ⟨first.toNat + i, h⟩ = true ∧ (s.bay ⟨first.toNat + i, h⟩).state = .run then
          reportTaken ⟨first.toNat + i, h⟩ v u
        else u)
      else u
    let result := fun (i : Nat) (v : BitVec 16) =>
      if v = 0x8000#16 then 255#8
      else if h : first.toNat + i < 24 then
        (if s.populated ⟨first.toNat + i, h⟩ = false then 3#8
        else if (s.bay ⟨first.toNat + i, h⟩).state ≠ .run then 6#8
        else if max (-80) (min 255 v.toInt) = v.toInt then 0#8
        else 1#8)
      else 3#8
    (first.toNat < min 24 s.rst.straps.bayCount →
      exec (.driveTemperature dst tag first v0 v1 v2) s = .next (answered
        (settled s (takes 2 v2 (takes 1 v1 (takes 0 v0 s)))) 10#8 tag .ok [result 0 v0, result 1 v1, result 2 v2])) ∧
    (min 24 s.rst.straps.bayCount ≤ first.toNat →
      exec (.driveTemperature dst tag first v0 v1 v2) s = .next (answered s 10#8 tag .badArgument []))

/-- R176: TABLE WINDOW is refused for a table, a start or an end that does not exist or an end below the start, leaving the
window as it was; otherwise it replaces the window, with the pointer at the start. -/
def Obligations.TableWindowCompletes : Prop :=
  ∀ (s : State) (dst tag table start stop : Byte), Takes s dst →
    let count := match table.toNat with
      | 0 => 24 | 1 => 16 | 2 => 8 | 3 => 32 | 4 => 16 | 5 => 24 | 6 => 4 | 7 => 9 | 8 => 8 | 9 => 6 | 10 => 24
      | _ => 0
    (start.toNat < count ∧ stop.toNat < count ∧ start.toNat ≤ stop.toNat →
      exec (.tableWindow dst tag table start stop) s = .next (answered
        { s with window := some ⟨table.toNat, start.toNat, stop.toNat, start.toNat⟩ }
        11#8 tag .ok [table, start, stop, start])) ∧
    (¬ (start.toNat < count ∧ stop.toNat < count ∧ start.toNat ≤ stop.toNat) →
      exec (.tableWindow dst tag table start stop) s = .next (answered s 11#8 tag .badArgument
        (match s.window with
        | some w => [b8 w.table, b8 w.start, b8 w.stop, b8 w.pointer]
        | none => [])))

/-- R177, R178, R180: TABLE PUT and TABLE GET without a window or off the pointer change nothing and say so; a PUT to table 10
is READ_ONLY; a GET at the pointer answers the entry as stored, in the bytes that StoredEntriesReadBack gives for each
table, and moves the pointer on. Data byte 4 of a mismatched
PUT is inferred (log 27). -/
def Obligations.TableAccessFollowsPointer : Prop :=
  ∀ (s : State) (dst tag index : Byte) (entry : List Byte), Takes s dst →
    (s.window = none →
      exec (.tablePut dst tag index entry) s = .next (answered s 12#8 tag .noWindow []) ∧
      exec (.tableGet dst tag index) s = .next (answered s 13#8 tag .noWindow [])) ∧
    ∀ w : Window, s.window = some w →
      (index.toNat ≠ w.pointer →
        exec (.tablePut dst tag index entry) s = .next (answered s 12#8 tag .pointerMismatch
          [b8 w.table, b8 w.start, b8 w.stop, b8 w.pointer]) ∧
        exec (.tableGet dst tag index) s = .next (answered s 13#8 tag .pointerMismatch
          [b8 w.table, b8 w.start, b8 w.stop, b8 w.pointer])) ∧
      (index.toNat = w.pointer →
        let next := if w.pointer = w.stop then w.start else w.pointer + 1
        exec (.tableGet dst tag index) s = .next (answered { s with window := some { w with pointer := next } }
          13#8 tag .ok ([index, b8 next] ++ getEntry w.table w.pointer s)) ∧
        (w.table = 10 →
          exec (.tablePut dst tag index entry) s = .next (answered s 12#8 tag .readOnly
            [b8 w.table, b8 w.start, b8 w.stop, b8 w.pointer, index])))

/-- R9, R33, R41, R54, R70, R99 to R101, R104, R109, R130, R136, R139, R166, R178: a TABLE PUT at the pointer stores a
whole entry, clamped where a number is out of range, with its consequences in the same event, and moves the pointer on.
Stated for tables 2, 3, 4, 5 and the six entries of table 9. The staged field of table 2 that is neither yes nor no, a
code that names no pattern, a set bit that names no condition and an attention enable that is neither on nor off refuse
the entry. A changed staleness limit judges every present record again. -/
def Obligations.TablePutStores : Prop :=
  ∀ (s : State) (dst tag index : Byte) (entry : List Byte) (w : Window), Takes s dst → s.window = some w →
    index.toNat = w.pointer → entry.length ≤ 11 →
    let next := { w with pointer := if w.pointer = w.stop then w.start else w.pointer + 1 }
    let stores := fun (u : State) (r : Result) =>
      exec (.tablePut dst tag index entry) s = .next (answered { u with window := some next } 12#8 tag r
        [b8 w.table, b8 w.start, b8 w.stop, b8 next.pointer, index])
    let refuses := fun (r : Result) =>
      exec (.tablePut dst tag index entry) s = .next (answered s 12#8 tag r
        [b8 w.table, b8 w.start, b8 w.stop, b8 w.pointer, index])
    let byte := fun (i : Nat) => (entry.getD i 0#8).toNat
    let word := fun (i : Nat) => byte i * 256 + byte (i + 1)
    (∀ c : ClassIx, w.table = 2 → w.pointer = c.val →
      let kept := fun (x : DriveClass) => { s with sched := { s.sched with classes := s.sched.classes.set c x } }
      (2 ≤ byte 7 / 64 → refuses .badArgument) ∧
      (byte 7 / 64 < 2 →
        let x : DriveClass :=
          { surge := min 2000 (word 0), run := min 2000 (word 2), spinUp := max 1 (byte 4), pgTimeout := max 1 (byte 5)
            resetHold := byte 6, staged := byte 7 / 64 = 1, retryLimit := min 3 (byte 7 % 64)
            warn := min 127 (byte 8), critical := min 127 (byte 9) }
        stores (attempt (kept x))
          (if word 0 ≤ 2000 ∧ word 2 ≤ 2000 ∧ 1 ≤ byte 4 ∧ 1 ≤ byte 5 ∧ byte 7 % 64 ≤ 3 ∧ byte 8 ≤ 127 ∧ byte 9 ≤ 127
          then .ok else .okClamped))) ∧
    (∀ i : Fin 24, w.table = 5 → w.pointer = i.val →
      let t := (BitVec.ofNat 16 (word 0)).toInt
      stores { s with
          cool := { s.cool with pendingCurves := s.cool.pendingCurves.set i ⟨max (-80) (min 255 t), byte 2⟩ } }
        (if -80 ≤ t ∧ t ≤ 255 then .ok else .okClamped)) ∧
    (w.table = 9 → w.pointer = 0 →
      let c := min 60000 (word 0)
      let g := min 2000 (word 2)
      let m := min 2000 (word 4)
      let u := { s with acct := { s.acct with ceiling := c, guardBand := g, margin := m } }
      stores (if s.acct.ceiling ≠ c ∨ s.acct.guardBand ≠ g then attempt u else u)
        (if word 0 ≤ 60000 ∧ word 2 ≤ 2000 ∧ word 4 ≤ 2000 then .ok else .okClamped)) ∧
    (w.table = 9 → w.pointer = 1 →
      stores { s with
          sched :=
            { s.sched with
              pendingPace := some ⟨max 100 (min 10000 (word 0)), max 1 (min 8 (byte 2))⟩ } }
        (if 100 ≤ word 0 ∧ word 0 ≤ 10000 ∧ 1 ≤ byte 2 ∧ byte 2 ≤ 8 then .ok else .okClamped)) ∧
    (w.table = 9 → w.pointer = 2 →
      stores { s with
          sup :=
            { s.sup with debounceSetting := max 1 (byte 0), drainSetting := max 100 (min 5000 (word 1)) } }
        (if 1 ≤ byte 0 ∧ 100 ≤ word 1 ∧ word 1 ≤ 5000 then .ok else .okClamped)) ∧
    (w.table = 9 → w.pointer = 5 →
      stores { s with ind := { s.ind with brightness := min 15 (byte 0) } }
        (if byte 0 ≤ 15 then .ok else .okClamped)) ∧
    (let pattern := fun (n : Nat) =>
      [Pattern.pass, .off, .on, .slow, .fast, .wink, .breathe, .activity].getD n .pass
    let three := fun (i : Nat) =>
      (⟨pattern (byte i / 16), pattern (byte i % 16), pattern (byte (i + 1) / 16)⟩ : Patterns)
    let named := fun (i : Nat) => byte i / 16 < 8 ∧ byte i % 16 < 8 ∧ byte (i + 1) / 16 < 8
    let conds := fun (n : Nat) =>
      ([Cond.present, .queued, .held, .surge, .running, .drain, .fault, .resetActive, .attention, .tempHot, .tempStale,
        .zoneFanFailed, .zoneHold, .loopLost, .overdraw].zipIdx.filter fun p => n.testBit p.2).map (·.1)
    (∀ k : Fin 32, w.table = 3 → w.pointer = k.val →
      (named 0 → stores { s with ind := { s.ind with patterns := s.ind.patterns.set k (three 0) } } .ok) ∧
      (¬ named 0 → refuses .badArgument)) ∧
    ∀ k : Fin 16, w.table = 4 → w.pointer = k.val →
      (word 0 < 32768 ∧ word 2 < 32768 ∧ named 4 →
        stores { s with
          ind :=
            { s.ind with
              rules := s.ind.rules.set k
                { required := conds (word 0), excluded := conds (word 2), urgent := decide (byte 5 % 2 = 1)
                  patterns := three 4 } } } .ok) ∧
      (¬ (word 0 < 32768 ∧ word 2 < 32768 ∧ named 4) → refuses .badArgument)) ∧
    (w.table = 9 → w.pointer = 3 →
      (byte 1 < 2 →
        stores { s with
            loop := { s.loop with timeout := max 1 (byte 0) }
            sup := { s.sup with attentionEnable := decide (byte 1 = 1) } }
          (if 1 ≤ byte 0 then .ok else .okClamped)) ∧
      (2 ≤ byte 1 → refuses .badArgument)) ∧
    (w.table = 9 → w.pointer = 4 →
      let limit := max 1 (byte 4)
      let hot := fun (b : BayIx) => hotFor (fun c => (s.driveClass c).warn) (s.bay b)
      let u : State :=
        { s with
          cool :=
            { s.cool with
              period := max 200 (min 5000 (word 0)), upStep := max 1 (byte 2), downStep := max 1 (byte 3) }
          scan := { s.scan with staleness := limit } }
      let v : State :=
        { u with
          scan :=
            { u.scan with
              temps := Vector.ofFn fun b => (s.temp b).map (rejudged (min 65535 (limit * 1000)) (hot b)) }
          sup :=
            { s.sup with
              bays := Vector.ofFn fun b => rejudgedBay (min 65535 (limit * 1000)) (hot b) (s.temp b) (s.bay b) } }
      stores (if s.scan.staleness = limit then u else v)
        (if 200 ≤ word 0 ∧ word 0 ≤ 5000 ∧ 1 ≤ byte 2 ∧ 1 ≤ byte 3 ∧ 1 ≤ byte 4 then .ok else .okClamped))

/-- R5 to R7, R31, R88, R89, R105, R117, R119, R178, R179: a TABLE PUT to table 0, 1, 6, 7 or 8 stores the entry its bytes
spell, unless a field names no member (BAD_ARGUMENT), a number outside its range clamped (OK_CLAMPED), and does the
following beside the store. Table 0: a slot that another bay's resolved slot holds refuses the entry, a new slot resolves
the map again, a new zone of a QUEUED bay makes an attempt, a new policy evaluates the desire, a new override resolves
the class again, and an absent bay's entry has no effect. Where a write changes several of them, the policy is taken
before the override, with one attempt at the end: the model's choice (log 14). Table 6: the holds. Table 7: a channel
disabled loses its valid reading and its conversion. Table 8: the fan's own record, the fan-failed field of every zone,
the demand, the source and the fans of a zone that gains it, the reserve and the holds. A zone that had the field before
gains nothing at the write (log 29). -/
def Obligations.TablePutTakesEffect : Prop :=
  ∀ (s : State) (dst tag index : Byte) (entry : List Byte) (w : Window), Takes s dst → s.window = some w →
    index.toNat = w.pointer →
    let next := { w with pointer := if w.pointer = w.stop then w.start else w.pointer + 1 }
    let refuses := fun (r : Result) =>
      exec (.tablePut dst tag index entry) s = .next (answered s 12#8 tag r
        [b8 w.table, b8 w.start, b8 w.stop, b8 w.pointer, index])
    let stores := fun (u : State) (r : Result) =>
      exec (.tablePut dst tag index entry) s = .next (answered { u with window := some next } 12#8 tag r
        [b8 w.table, b8 w.start, b8 w.stop, b8 next.pointer, index])
    let clears := fun (u : State) => ∃ z : ZoneIx, (s.zone z).hold = true ∧ (u.zone z).hold = false
    let byte := fun (i : Nat) => (entry.getD i 0#8).toNat
    let word := fun (i : Nat) => byte i * 256 + byte (i + 1)
    (∀ b : BayIx, w.table = 0 → w.pointer = b.val →
      let named := (byte 0 < 192 ∨ 254 ≤ byte 0) ∧ byte 1 < 4 ∧ byte 2 < 2 ∧ (byte 3 < 8 ∨ byte 3 = 255) ∧
        byte 4 < 2 ∧ byte 5 < 32
      let c : BayCfg :=
        { slot := if byte 0 < 192 then .slot (byte 0) else if byte 0 = 254 then .unmapped else .byPosition
          zone := Fin.ofNat 4 (byte 1), policy := if byte 2 = 1 then .auto else .manual
          override := if byte 3 = 255 then none else some (Fin.ofNat 8 (byte 3)), cut := decide (byte 4 = 1)
          mask :=
            ⟨(byte 5).testBit 0, (byte 5).testBit 1, (byte 5).testBit 2, (byte 5).testBit 3, (byte 5).testBit 4⟩ }
      let old := s.bayCfg b
      let x := s.bay b
      let u := if c.slot = old.slot then s.setBayCfg b c else resolveMap (s.setBayCfg b c)
      let taken := s.populated b = true ∧ ∃ d : BayIx, d ≠ b ∧ (s.loop.slotMap.get d).isSome = true ∧
        s.loop.slotMap.get d = fieldSlot s b c.slot
      (¬ named → refuses .badArgument) ∧ (named → taken → refuses .duplicateSlot) ∧
      (named → ¬ taken →
        (s.populated b = false → stores u .ok) ∧
        (s.populated b = true →
          (c.policy = old.policy → c.override = old.override →
            stores (if c.zone ≠ old.zone ∧ x.state = .queued then attempt u else u) .ok) ∧
          (c.zone = old.zone ∨ x.state ≠ .queued → c.policy ≠ old.policy → c.override = old.override →
            stores (obeyed u b x) .ok) ∧
          (c.zone = old.zone ∨ x.state ≠ .queued → c.policy = old.policy → c.override ≠ old.override →
            stores (resolvedAgain u b) .ok) ∧
          (QueueMatches s →
            let act := obeyedRecord (s.acct.ceiling - s.acct.guardBand) (fun k => (s.driveClass k).surge)
              s.sup.drainSetting c.policy
            let y := if c.policy = old.policy then x else act x
            let z := if c.override = old.override then y
              else reclassedRecord (s.acct.ceiling - s.acct.guardBand) (fun k => (s.driveClass k).surge) act
                (classAnswer u b x.carrier) y
            let head := z.state = .queued ∧ (evaluated x).expedite = true ∧ (x.state = .idle ∨ c.policy ≠ old.policy)
            let q := s.sched.queue.filter (· ≠ b)
            let t := u.setBay b z
            let v : State :=
              { (if x.powered = true ∧ z.state = .drain then t.setTemp b none else t) with
                sched :=
                  { s.sched with
                    queue := if head then b :: q else if z.state ≠ .queued then q
                      else if x.state = .queued then s.sched.queue else q ++ [b] } }
            let owed := (c.zone ≠ old.zone ∧ x.state = .queued) ∨ (c.override ≠ old.override ∧ y.state = .queued) ∨
              head ∨ ¬ (x.state = .queued ↔ z.state = .queued) ∨ v.committed < s.committed
            (owed → stores (attempt v) .ok) ∧ (¬ owed → stores v .ok))))) ∧
    (∀ i : Fin 16, w.table = 1 → w.pointer = i.val →
      let kept := fun (x : CarrierEntry) => { s with sup := { s.sup with carrierMap := s.sup.carrierMap.set i x } }
      (∀ c : ClassIx, byte 0 = c.val → stores (kept (.cls c)) .ok) ∧ (byte 0 = 14 → stores (kept .blank) .ok) ∧
      (byte 0 = 15 → stores (kept .unsupported) .ok) ∧
      (8 ≤ byte 0 → byte 0 ≠ 14 → byte 0 ≠ 15 → refuses .badArgument)) ∧
    (∀ z : ZoneIx, w.table = 6 → w.pointer = z.val →
      let temp := (BitVec.ofNat 16 (word 0)).toInt
      let c : ZoneCfg :=
        { holdTemp := max (-80) (min 255 temp), driveOffset := min 31 (byte 2), fallback := byte 3 }
      let r : Result := if -80 ≤ temp ∧ temp ≤ 255 ∧ byte 2 ≤ 31 then .ok else .okClamped
      let u := recomputeHolds { s with cool := { s.cool with zoneCfg := s.cool.zoneCfg.set z c } }
      (clears u → stores (attempt u) r) ∧ (¬ clears u → stores u r)) ∧
    (∀ ch : ChannelIx, w.table = 7 → w.pointer = ch.val →
      let named := byte 0 < 2 ∧ (byte 1 < 4 ∨ byte 1 = 255) ∧ byte 2 < 2
      let c : SensorCfg :=
        { enabled := decide (byte 0 = 1), zone := if byte 1 = 255 then none else some (Fin.ofNat 4 (byte 1))
          negative := decide (byte 2 = 1), magnitude := min 7 (byte 3), span := word 4
          intercept := (entry.getD 6 0#8).toInt }
      let r : Result := if byte 3 ≤ 7 then .ok else .okClamped
      let u := { s with scan := { s.scan with sensors := s.scan.sensors.set ch c } }
      (¬ named → refuses .badArgument) ∧
      (named → (s.sensor ch).enabled = true → c.enabled = false →
        stores { u with
            scan :=
              { u.scan with
                channels := s.scan.channels.set ch { s.channel ch with valid := false }
                converting := s.scan.converting.map fun k =>
                  if k.channel = ch then { k with cancelled := true } else k } } r) ∧
      (named → (s.sensor ch).enabled = false ∨ c.enabled = true → stores u r)) ∧
    ∀ f : FanIx, w.table = 8 → w.pointer = f.val →
      let named := byte 0 < 2 ∧ byte 1 < 4
      let c : FanCfg :=
        { enabled := decide (byte 0 = 1), zone := Fin.ofNat 4 (byte 1), fullCurrent := min 1000 (word 2)
          minDuty := byte 4, minRpm := word 5, pulses := max 1 (min 4 (byte 7)) }
      let r : Result := if word 2 ≤ 1000 ∧ 1 ≤ byte 7 ∧ byte 7 ≤ 4 then .ok else .okClamped
      let v : State :=
        { s with
          cool :=
            { s.cool with
              fanCfg := s.cool.fanCfg.set f c
              fans := s.cool.fans.set f (fanRewritten (s.fanCfg f) c (s.zone c.zone) (s.fan f)) } }
      let failed := fun (z : ZoneIx) =>
        decide (∃ g : FanIx, (v.fanCfg g).enabled = true ∧ (v.fanCfg g).zone = z ∧ (v.fan g).state = .failed)
      let gains := fun (z : ZoneIx) => failed z && !(s.zone z).fanFailed
      let u := recomputeHolds (handReserve
        { v with
          cool :=
            { v.cool with
              zones := Vector.ofFn fun z =>
                if gains z then { s.zone z with fanFailed := true, demand := 255, source := .fanFailed }
                else { s.zone z with fanFailed := failed z }
              fans := Vector.ofFn fun g =>
                if (v.fanCfg g).enabled && gains (v.fanCfg g).zone then
                  { v.fan g with target := 255, applied := 255 }
                else v.fan g } })
      (¬ named → refuses .badArgument) ∧
      (named → u.acct.fanReserve < s.acct.fanReserve ∨ clears u → stores (attempt u) r) ∧
      (named → s.acct.fanReserve ≤ u.acct.fanReserve → ¬ clears u → stores u r)

/-- R178, R180, R193 and the layouts of 10, section 10.4: the bytes in which an entry of each table reads back, and that an
entry which an accepted TABLE PUT has stored reads back as bytes that store without clamping and read back as they are,
in every writable table. Entry 1 of table 9 shows the pending pair while it exists (R54). The window of the second part
holds the one entry. -/
def Obligations.StoredEntriesReadBack : Prop :=
  (∀ s : State,
    let two := fun (n : Nat) => [b8 (n / 256), b8 n]
    let signed := fun (v : Int) => [(BitVec.ofInt 16 v >>> 8).setWidth 8, (BitVec.ofInt 16 v).setWidth 8]
    let flag := fun (c : Bool) => if c then 1#8 else 0#8
    let kinds := fun (a : AttnSet) =>
      flag a.presence + 2#8 * flag a.power + 4#8 * flag a.fault + 8#8 * flag a.resetDone + 16#8 * flag a.temperature
    let code := fun (p : Pattern) => match p with
      | .pass => 0 | .off => 1 | .on => 2 | .slow => 3 | .fast => 4 | .wink => 5 | .breathe => 6 | .activity => 7
    let conds := fun (l : List Cond) => two
      (([Cond.present, .queued, .held, .surge, .running, .drain, .fault, .resetActive, .attention, .tempHot, .tempStale,
        .zoneFanFailed, .zoneHold, .loopLost, .overdraw].zipIdx.map fun p => if p.1 ∈ l then 2 ^ p.2 else 0).sum)
    (∀ b : BayIx, let c := s.bayCfg b
      getEntry 0 b.val s =
        [match c.slot with | .slot k => b8 k | .unmapped => 254#8 | .byPosition => 255#8, b8 c.zone.val,
          flag (decide (c.policy = .auto)), match c.override with | some k => b8 k.val | none => 255#8, flag c.cut,
          kinds c.mask]) ∧
    (∀ i : Fin 16, getEntry 1 i.val s =
      [match s.sup.carrierMap.get i with | .cls c => b8 c.val | .blank => 14#8 | .unsupported => 15#8]) ∧
    (∀ k : ClassIx, let c := s.driveClass k
      getEntry 2 k.val s = two c.surge ++ two c.run ++
        [b8 c.spinUp, b8 c.pgTimeout, b8 c.resetHold, b8 ((if c.staged then 64 else 0) + c.retryLimit), b8 c.warn,
          b8 c.critical]) ∧
    (∀ i : Fin 32, let p := s.ind.patterns.get i
      getEntry 3 i.val s = [b8 (code p.activity * 16 + code p.locate), b8 (code p.fault * 16)]) ∧
    (∀ i : Fin 16, let r := s.ind.rules.get i
      getEntry 4 i.val s = conds r.required ++ conds r.excluded ++
        [b8 (code r.patterns.activity * 16 + code r.patterns.locate),
          b8 (code r.patterns.fault * 16 + if r.urgent then 1 else 0)]) ∧
    (∀ i : Fin 24, getEntry 5 i.val s =
      signed (s.cool.pendingCurves.get i).temp ++ [b8 (s.cool.pendingCurves.get i).duty]) ∧
    (∀ i : Fin 24, getEntry 10 i.val s =
      signed (s.cool.activeCurves.get i).temp ++ [b8 (s.cool.activeCurves.get i).duty]) ∧
    (∀ z : ZoneIx, getEntry 6 z.val s =
      signed (s.zoneCfg z).holdTemp ++ [b8 (s.zoneCfg z).driveOffset, b8 (s.zoneCfg z).fallback]) ∧
    (∀ ch : ChannelIx, let c := s.sensor ch
      getEntry 7 ch.val s =
        [flag c.enabled, match c.zone with | some z => b8 z.val | none => 255#8, flag c.negative, b8 c.magnitude] ++
          two c.span ++ [BitVec.ofInt 8 c.intercept]) ∧
    (∀ f : FanIx, let c := s.fanCfg f
      getEntry 8 f.val s =
        [flag c.enabled, b8 c.zone.val] ++ two c.fullCurrent ++ [b8 c.minDuty] ++ two c.minRpm ++ [b8 c.pulses]) ∧
    getEntry 9 0 s = two s.acct.ceiling ++ two s.acct.guardBand ++ two s.acct.margin ∧
    (∀ p, s.sched.pendingPace = some p → getEntry 9 1 s = two p.interval ++ [b8 p.limit]) ∧
    (s.sched.pendingPace = none → getEntry 9 1 s = two s.sched.pace.interval ++ [b8 s.sched.pace.limit]) ∧
    getEntry 9 2 s = [b8 s.sup.debounceSetting] ++ two s.sup.drainSetting ∧
    getEntry 9 3 s = [b8 s.loop.timeout, flag s.sup.attentionEnable] ∧
    getEntry 9 4 s = two s.cool.period ++ [b8 s.cool.upStep, b8 s.cool.downStep, b8 s.scan.staleness] ∧
    getEntry 9 5 s = [b8 s.ind.brightness]) ∧
  ∀ (s t : State) (dst tag index : Byte) (entry : List Byte) (table : Nat), Takes s dst → MapResolved s →
    table < 10 → index.toNat < entryCount table →
    s.window = some ⟨table, index.toNat, index.toNat, index.toNat⟩ →
    exec (.tablePut dst tag index entry) s = .next t →
    (∃ r, t.loop.reply = some r ∧ (r.result = .ok ∨ r.result = .okClamped)) →
    let stored := getEntry table index.toNat t
    ∃ v r, exec (.tablePut dst tag index stored) { t with loop := { t.loop with reply := none } } = .next v ∧
      v.loop.reply = some r ∧ r.result = .ok ∧ getEntry table index.toNat v = stored

/-- R111: CURVE ACTIVATE copies the six pending points of a zone to its active points where their temperatures strictly ascend,
and answers INVALID_CURVE with the active points unchanged otherwise. -/
def Obligations.CurveActivateCompletes : Prop :=
  ∀ (s : State) (dst tag : Byte) (z : ZoneIx), Takes s dst →
    let pt := fun (i : Nat) => (curvePoint s.cool.pendingCurves z i).temp
    let rises := pt 0 < pt 1 ∧ pt 1 < pt 2 ∧ pt 2 < pt 3 ∧ pt 3 < pt 4 ∧ pt 4 < pt 5
    (rises → ∃ u, exec (.curveActivate dst tag (b8 z.val)) s = .next (answered u 14#8 tag .ok []) ∧
      u = { s with cool := { s.cool with activeCurves := u.cool.activeCurves } } ∧
      (∀ i : Nat, i < 6 → curvePoint u.cool.activeCurves z i = curvePoint s.cool.pendingCurves z i) ∧
      ∀ (y : ZoneIx) (i : Nat), y ≠ z → i < 6 →
        curvePoint u.cool.activeCurves y i = curvePoint s.cool.activeCurves y i) ∧
    (¬ rises → exec (.curveActivate dst tag (b8 z.val)) s = .next (answered s 14#8 tag .invalidCurve []))

/-! ### Resets -/

/-- R184, R170: PART RESET of LOOP scope makes the part unplaced, empties the reply hold, ends the window and resolves the map
again; sent to the part it is then answered OK. -/
def Obligations.PartResetLoopCompletes : Prop :=
  ∀ (s : State) (dst tag : Byte), s.inReset = false → s.loop.position.isSome = true →
    ∃ u, u = { s with loop := u.loop, window := none } ∧
      u.loop = { s.loop with
        position := none, reply := none, replyPlaced := false, slotMap := u.loop.slotMap
        mapConflict := u.loop.mapConflict } ∧
      MapResolved u ∧
      (dst = 15#8 → exec (.partResetLoop dst tag) s = .next u) ∧
      (Takes s dst → exec (.partResetLoop dst tag) s = .next (answered u 20#8 tag .ok []))

/-- R37, R50, R57, R84, R93, R99, R105, R110, R119, R128, R136, R139, R147, R174, R183: PART RESET of TABLES scope
restores every table with the straps as last sampled, the stagger defaults as pending values. What follows is one event
closed by one attempt: every bay record stays but for a class resolved again where the override changes, a desire
evaluated where the policy changes, and a temperature judged again where the staleness limit changes; the bays still
QUEUED keep their places and their order, whatever their desire is evaluated from (that such a bay keeps its expedite
flag too is the model's reading, log 35, DEDUCED), and those that enter are taken in together; a channel that becomes disabled loses its valid
reading and its conversion; each fan takes what a write of its entry gives, and 255 in a restored zone with a FAILED fan;
the zones keep temperatures and demands; the reserve, the holds and the slot map are taken anew. The part keeps its
position, its window and its streaks. The order inside the restoration is inferred (log 15), and a fan that changes its
zone or minimum duty under a source of CRITICAL or FAN_FAILED is raised as R119 gives (log 29). -/
def Obligations.PartResetTablesCompletes : Prop :=
  ∀ (s : State) (dst tag : Byte), s.inReset = false → s.loop.position.isSome = true →
    let policy := s.rst.straps.policy
    let ceiling := strapCeiling s.rst.straps.ceilingCode
    let hot := fun (b : BayIx) => hotFor (fun c => (defaultClass c).warn) (s.bay b)
    let judged := fun (b : BayIx) =>
      if s.scan.staleness = 10 then s.bay b else rejudgedBay 10000 (hot b) (s.temp b) (s.bay b)
    let fan := fun (f : FanIx) =>
      fanRewritten (s.fanCfg f) (defaultFanEntry f) (s.zone (Fin.ofNat 4 f.val)) (s.fan f)
    let broken := fun (z : ZoneIx) => decide ((fan (Fin.ofNat 8 z.val)).state = .failed)
    ∃ v, (dst = 15#8 → exec (.partResetTables dst tag) s = .next (attempt v)) ∧
      (Takes s dst → exec (.partResetTables dst tag) s = .next (answered (attempt v) 20#8 tag .ok [])) ∧
      v = { s with
        sup := v.sup, sched := v.sched, acct := v.acct, scan := v.scan, cool := v.cool, ind := v.ind, loop := v.loop } ∧
      v.sup =
        { bays := v.sup.bays, cfg := v.sup.cfg, carrierMap := defaultCarrierMap, debounceSetting := 25
          drainSetting := 500, attentionEnable := true } ∧
      (∀ b : BayIx,
        v.bayCfg b =
          { slot := .byPosition, zone := Fin.ofNat 4 (b.val / 6), policy := policy, override := none
            cut := true, mask := ⟨true, true, true, true, true⟩ } ∧
        v.bay b =
          (if s.populated b then restoredRecord ((ceiling : Int) - 100) policy (s.bayCfg b) (judged b)
          else judged b) ∧
        v.temp b =
          (if s.populated b = true ∧ ((s.bay b).state = .surge ∨ (s.bay b).state = .run) ∧ (v.bay b).state = .drain then
            none
          else if s.scan.staleness = 10 then s.temp b
          else (s.temp b).map (rejudged 10000 (hot b))) ∧
        v.bayLights b = { s.bayLights b with hold := none }) ∧
      v.sched =
        { s.sched with classes := defaultClasses, pendingPace := some ⟨1000, 2⟩, queue := v.sched.queue } ∧
      (QueueMatches s →
        let head := fun (b : BayIx) =>
          s.populated b && decide ((v.bay b).state = .queued) && (evaluated (s.bay b)).expedite &&
            decide ((s.bay b).state = .idle)
        v.sched.queue =
          (allBays.filter head).reverse ++
            (s.sched.queue.filter fun b => decide ((v.bay b).state = .queued)) ++
            allBays.filter fun b =>
              !head b && decide ((v.bay b).state = .queued) && decide ((s.bay b).state ≠ .queued)) ∧
      v.acct =
        { s.acct with ceiling := ceiling, guardBand := 100, margin := 200, fanReserve := v.acct.fanReserve } ∧
      v.acct.fanReserve = (allFans.map fun f =>
        if f.val < 4 then (if (v.fan f).state = .failed then 150 else (150 * (v.fan f).applied + 254) / 255)
        else 0).sum ∧
      v.scan =
        { s.scan with
          channels := v.scan.channels, sensors := defaultSensors, temps := v.scan.temps, staleness := 10
          converting := s.scan.converting.map fun k =>
            if (s.sensor k.channel).enabled = true ∧ 4 ≤ k.channel.val ∧ k.channel.val ≤ 7 then
              { k with cancelled := true }
            else k } ∧
      (∀ ch : ChannelIx, v.channel ch =
        if (s.sensor ch).enabled = true ∧ 4 ≤ ch.val ∧ ch.val ≤ 7 then { s.channel ch with valid := false }
        else s.channel ch) ∧
      v.cool =
        { zones := v.cool.zones, zoneCfg := Vector.replicate 4 ⟨110, 8, 200⟩, fans := v.cool.fans
          fanCfg := defaultFanCfg, pendingCurves := defaultCurves, activeCurves := defaultCurves, period := 1000
          upStep := 8, downStep := 4, periodEnd := s.cool.periodEnd, periodLength := s.cool.periodLength } ∧
      (∀ f : FanIx, v.fan f =
        if f.val < 4 ∧ (fan f).state = .failed then { fan f with target := 255, applied := 255 } else fan f) ∧
      (∀ z : ZoneIx, v.zone z =
        { s.zone z with
          fanFailed := broken z
          hold := broken z || (match (s.zone z).temp with
            | some t => decide (110 ≤ t)
            | none => false) }) ∧
      v.ind =
        { s.ind with patterns := defaultPatterns, rules := defaultRules, brightness := 12, bays := v.ind.bays } ∧
      v.loop = { s.loop with slotMap := v.loop.slotMap, mapConflict := v.loop.mapConflict, timeout := 20 } ∧
      MapResolved v

/-- R187, R189: POWER_ON_RESET and RESET_PIN hold the part with every bay output off, every fan output high and IDLE at the loop
output; the end of one trigger while the other lasts only ends that trigger, and at a part that is not
held it is without effect. What the held part keeps and ignores is inferred (log 19), and that the PWM period counter
stands at 0 in the held phase is the model's choice (log 28). -/
def Obligations.TriggersHoldThePart : Prop :=
  ∀ s : State,
    (∃ t, exec .powerOnReset s = .next t ∧
      t.rst = { s.rst with powerOn := true, sawPowerOn := true } ∧ t.inReset = true ∧
      t.io.pins = s.io.pins ∧ t.io.out = outputsOff (Vector.replicate 8 255) ∧ t.loop.sent = .idle ∧
      t.loop.receiver = .discard) ∧
    (∃ t, exec .resetPin s = .next t ∧ t.rst = { s.rst with pin := true } ∧ t.inReset = true ∧
      t.io.pins = s.io.pins ∧ t.io.out = outputsOff (Vector.replicate 8 255) ∧ t.loop.sent = .idle ∧
      t.loop.receiver = .discard) ∧
    (s.rst.pin = true →
      exec (.resetTriggerEnd .powerOn) s = .next { s with rst := { s.rst with powerOn := false } }) ∧
    (s.rst.powerOn = true → exec (.resetTriggerEnd .pin) s = .next { s with rst := { s.rst with pin := false } }) ∧
    ∀ trigger : ResetTrigger, s.inReset = false → exec (.resetTriggerEnd trigger) s = .next s

/-- R36, R50, R57, R83, R86, R127, R146, R167, R174, R185 to R189: a full reset, taken when the last trigger ends (cause POWER_ON
if a power-on trigger was seen in the held phase, else PIN) or at a PART RESET of FULL scope sent to the part (cause
MESSAGE, no reply), leaves every block at its full-reset values with the straps as the pins stand, the scan about to
convert channel 0 (log 25), the lights dark and the fans' outputs at their reset duties (log 28), and keeps the input
pins, the power enable and drive reset outputs until the first scan, the waiting commands and what the loop is about to
send (log 20). That a supply which falls while the pin already holds the part makes the cause POWER_ON (log 32), and that a
resolution of the lights still to come is dropped (log 30) are the model's choices. -/
def Obligations.FullResetTaken : Prop :=
  ∀ (s : State) (cause : ResetCause),
    let straps := sampleStraps s.io.pins.straps
    let taken := fun (c : Instr) => ∃ u, exec c s = .next u ∧
      u.rst = { powerOn := false, pin := false, sawPowerOn := false, cause := cause, straps := straps } ∧
      u.time.now = 0 ∧ (∀ b : BayIx, u.bay b = defaultBay) ∧
      (∀ b : BayIx, u.bayCfg b = defaultBayCfg straps.policy b) ∧ u.sup.carrierMap = defaultCarrierMap ∧
      u.sup.debounceSetting = 25 ∧ u.sup.drainSetting = 500 ∧ u.sup.attentionEnable = true ∧
      u.sched = { classes := defaultClasses, queue := [], pace := ⟨1000, 2⟩, pendingPace := none, generation := false
                  frameNumber := 0, admissions := 0, nextBoundary := 1000 } ∧
      u.acct = { ceiling := strapCeiling straps.ceilingCode, guardBand := 100, margin := 200, fanReserve := 472
                 overStreak := 0, clearStreak := 0, overdraw := false } ∧
      (∀ ch : ChannelIx, u.channel ch = ⟨0, 0, 0, false⟩) ∧ u.scan.sensors = defaultSensors ∧
      (∀ b : BayIx, u.temp b = none) ∧ u.scan.staleness = 10 ∧ u.scan.pointer = some 0 ∧
      u.scan.converting = some ⟨0, false⟩ ∧ u.scan.slotDue = false ∧ u.cool = State.reset.cool ∧ u.ind = State.reset.ind ∧
      u.loop = { State.reset.loop with clock := s.loop.clock, tx := s.loop.tx, sent := s.loop.sent } ∧
      u.window = none ∧ u.io.pins = s.io.pins ∧ u.io.firstScan = true ∧
      u.io.out.lights = Vector.replicate 24 dark ∧ u.io.out.powerEnable = s.io.out.powerEnable ∧
      u.io.out.driveReset = s.io.out.driveReset ∧ u.io.out.pwmCounter = 0 ∧
      (∀ f : FanIx, u.io.out.pwm.get f = if f.val < 4 then 200 else 0) ∧ u.pending = s.pending
    (s.rst.powerOn = true → s.rst.pin = false → cause = (if s.rst.sawPowerOn then .powerOn else .pin) →
      taken (.resetTriggerEnd .powerOn)) ∧
    (s.rst.powerOn = false → s.rst.pin = true → cause = (if s.rst.sawPowerOn then .powerOn else .pin) →
      taken (.resetTriggerEnd .pin)) ∧
    (∀ dst tag : Byte, Takes s dst → cause = .message → taken (.partResetFull dst tag))

/-! ### Invariants -/

/-- Every invariant of the part holds right after a power-on reset. The pin and strap levels of that state are the
model's (log 8). -/
def Obligations.InvariantsHoldAtReset : Prop :=
  QueueMatches State.reset ∧ PaceRespected State.reset ∧ BaysMatch State.reset ∧ PresenceMatches State.reset ∧
    AbsentStayDefault State.reset ∧ CoolingMatches State.reset ∧ MapResolved State.reset ∧
    WindowInBounds State.reset ∧ ReadingsInRange State.reset ∧ LightsInRange State.reset ∧
    EntriesInRange State.reset ∧ SettingsInRange State.reset

/-- R44: every step keeps the admission queue and the bay states in agreement. -/
def Obligations.QueueMatchesKept : Prop :=
  ∀ s t : State, QueueMatches s → step s = .next t → QueueMatches t

/-- R52, R53, R56: every step keeps the staged admissions of a frame within the limit in force. -/
def Obligations.PaceRespectedKept : Prop :=
  ∀ s t : State, PaceRespected s → step s = .next t → PaceRespected t

/-- R2, R10, R25, R26, R28, R95: every step keeps every bay record in agreement with its state, given that the drain interval
is in its range (which every step keeps as well), and a bay without presence EMPTY or in DRAIN. -/
def Obligations.BaysMatchKept : Prop :=
  ∀ s t : State, step s = .next t →
    (BaysMatch s → 100 ≤ s.sup.drainSetting → BaysMatch t ∧ 100 ≤ t.sup.drainSetting) ∧
    (PresenceMatches s → PresenceMatches t)

/-- R3, R129: every step leaves absent bays as a full reset leaves them. -/
def Obligations.AbsentStayDefaultKept : Prop :=
  ∀ s t : State, AbsentStayDefault s → MapResolved s → step s = .next t → AbsentStayDefault t

/-- R111, R115, R118, R121, R123, R124: every step keeps the fans, the active curves, the handed reserve, the fan-failed fields
and the holds in agreement. -/
def Obligations.CoolingMatchesKept : Prop :=
  ∀ s t : State, CoolingMatches s → step s = .next t → CoolingMatches t

/-- R157, R158, R174: every step keeps the slot map resolved and the table window in its table, and no two bays of a resolved
map own one slot. In a resolved map a populated bay claims the slot its field gives, or position × 24 + its number by
default where the part is placed; an absent bay claims none; the lowest-numbered claimant owns a slot and the others are
unmapped; and the map-conflict flag says that two bays claim one slot. -/
def Obligations.MapAndWindowKept : Prop :=
  (∀ s t : State, MapResolved s → step s = .next t → MapResolved t) ∧
  (∀ s t : State, WindowInBounds s → step s = .next t → WindowInBounds t) ∧
  (∀ (s : State) (b c : BayIx) (k : Nat), MapResolved s → s.loop.slotMap.get b = some k →
    s.loop.slotMap.get c = some k → b = c) ∧
  ∀ s : State, MapResolved s →
    let claims := fun (b : BayIx) =>
      if b.val < s.rst.straps.bayCount then
        (match (s.bayCfg b).slot, s.loop.position with
        | .slot k, _ => some k
        | .unmapped, _ => none
        | .byPosition, some p => some (p.val * 24 + b.val)
        | .byPosition, none => none)
      else none
    (∀ b : BayIx, s.loop.slotMap.get b =
      if ∃ c : BayIx, c < b ∧ claims c = claims b then none else claims b) ∧
    (s.loop.mapConflict = true ↔ ∃ b c : BayIx, c < b ∧ claims b ≠ none ∧ claims c = claims b)

/-- R5, R9, R29, R38, R69, R78, R86, R89, R95, R99, R104, R105, R109, R117, R129 to R131, R166: every step keeps readings, streaks, drive levels and
settings within their ranges. -/
def Obligations.RangesKept : Prop :=
  (∀ s t : State, ReadingsInRange s → step s = .next t → ReadingsInRange t) ∧
  (∀ s t : State, LightsInRange s → step s = .next t → LightsInRange t) ∧
  (∀ s t : State, EntriesInRange s → step s = .next t → EntriesInRange t) ∧
  ∀ s t : State, SettingsInRange s → step s = .next t → SettingsInRange t
end

