-- ==== Sys2Proof/Laws/State.lean ====
section
/-! SUPPORT. One lemma per field per update of State: a read after an update gives the update or the old value. -/

namespace Sys2Proof.Machine

/-! ### setBay -/

@[simp] theorem State.bay_setBay_same (s : State) (i : BayIx) (x : Bay) : (s.setBay i x).bay i = x := by
  simp [State.bay, State.setBay, Vector.get_eq_getElem]

@[simp] theorem State.bay_setBay_other (s : State) (x : Bay) {i j : BayIx} (h : j ≠ i) :
    (s.setBay i x).bay j = s.bay j := by
  have h : i.val ≠ j.val := fun e => h (Fin.ext e.symm)
  simp [State.bay, State.setBay, Vector.get_eq_getElem, h]

@[simp] theorem State.time_setBay (s : State) (i : BayIx) (x : Bay) : (s.setBay i x).time = s.time := rfl
@[simp] theorem State.rst_setBay (s : State) (i : BayIx) (x : Bay) : (s.setBay i x).rst = s.rst := rfl
@[simp] theorem State.io_setBay (s : State) (i : BayIx) (x : Bay) : (s.setBay i x).io = s.io := rfl
@[simp] theorem State.sched_setBay (s : State) (i : BayIx) (x : Bay) : (s.setBay i x).sched = s.sched := rfl
@[simp] theorem State.acct_setBay (s : State) (i : BayIx) (x : Bay) : (s.setBay i x).acct = s.acct := rfl
@[simp] theorem State.scan_setBay (s : State) (i : BayIx) (x : Bay) : (s.setBay i x).scan = s.scan := rfl
@[simp] theorem State.cool_setBay (s : State) (i : BayIx) (x : Bay) : (s.setBay i x).cool = s.cool := rfl
@[simp] theorem State.ind_setBay (s : State) (i : BayIx) (x : Bay) : (s.setBay i x).ind = s.ind := rfl
@[simp] theorem State.loop_setBay (s : State) (i : BayIx) (x : Bay) : (s.setBay i x).loop = s.loop := rfl
@[simp] theorem State.window_setBay (s : State) (i : BayIx) (x : Bay) : (s.setBay i x).window = s.window := rfl
@[simp] theorem State.pending_setBay (s : State) (i : BayIx) (x : Bay) : (s.setBay i x).pending = s.pending := rfl
@[simp] theorem State.sup_cfg_setBay (s : State) (i : BayIx) (x : Bay) :
    (s.setBay i x).sup.cfg = s.sup.cfg := rfl
@[simp] theorem State.sup_carrierMap_setBay (s : State) (i : BayIx) (x : Bay) :
    (s.setBay i x).sup.carrierMap = s.sup.carrierMap := rfl
@[simp] theorem State.sup_debounceSetting_setBay (s : State) (i : BayIx) (x : Bay) :
    (s.setBay i x).sup.debounceSetting = s.sup.debounceSetting := rfl
@[simp] theorem State.sup_drainSetting_setBay (s : State) (i : BayIx) (x : Bay) :
    (s.setBay i x).sup.drainSetting = s.sup.drainSetting := rfl
@[simp] theorem State.sup_attentionEnable_setBay (s : State) (i : BayIx) (x : Bay) :
    (s.setBay i x).sup.attentionEnable = s.sup.attentionEnable := rfl
@[simp] theorem State.bayCfg_setBay (s : State) (i : BayIx) (x : Bay) (j : BayIx) :
    (s.setBay i x).bayCfg j = s.bayCfg j := rfl
@[simp] theorem State.seen_setBay (s : State) (i : BayIx) (x : Bay) (j : BayIx) :
    (s.setBay i x).seen j = s.seen j := rfl
@[simp] theorem State.driveClass_setBay (s : State) (i : BayIx) (x : Bay) (j : ClassIx) :
    (s.setBay i x).driveClass j = s.driveClass j := rfl
@[simp] theorem State.temp_setBay (s : State) (i : BayIx) (x : Bay) (j : BayIx) :
    (s.setBay i x).temp j = s.temp j := rfl
@[simp] theorem State.channel_setBay (s : State) (i : BayIx) (x : Bay) (j : ChannelIx) :
    (s.setBay i x).channel j = s.channel j := rfl
@[simp] theorem State.sensor_setBay (s : State) (i : BayIx) (x : Bay) (j : ChannelIx) :
    (s.setBay i x).sensor j = s.sensor j := rfl
@[simp] theorem State.zone_setBay (s : State) (i : BayIx) (x : Bay) (j : ZoneIx) :
    (s.setBay i x).zone j = s.zone j := rfl
@[simp] theorem State.zoneCfg_setBay (s : State) (i : BayIx) (x : Bay) (j : ZoneIx) :
    (s.setBay i x).zoneCfg j = s.zoneCfg j := rfl
@[simp] theorem State.fan_setBay (s : State) (i : BayIx) (x : Bay) (j : FanIx) :
    (s.setBay i x).fan j = s.fan j := rfl
@[simp] theorem State.fanCfg_setBay (s : State) (i : BayIx) (x : Bay) (j : FanIx) :
    (s.setBay i x).fanCfg j = s.fanCfg j := rfl
@[simp] theorem State.bayLights_setBay (s : State) (i : BayIx) (x : Bay) (j : BayIx) :
    (s.setBay i x).bayLights j = s.bayLights j := rfl
@[simp] theorem State.populated_setBay (s : State) (i : BayIx) (x : Bay) (j : BayIx) :
    (s.setBay i x).populated j = s.populated j := rfl
@[simp] theorem State.inReset_setBay (s : State) (i : BayIx) (x : Bay) : (s.setBay i x).inReset = s.inReset := rfl
@[simp] theorem State.setBay_setBay (s : State) (i : BayIx) (x y : Bay) : (s.setBay i x).setBay i y = s.setBay i y := by
  simp [State.setBay]

@[simp] theorem State.setBay_self (s : State) (i : BayIx) : s.setBay i (s.bay i) = s := by
  simp [State.setBay, State.bay, Vector.get_eq_getElem]

/-! ### setBayCfg -/

@[simp] theorem State.bayCfg_setBayCfg_same (s : State) (i : BayIx) (x : BayCfg) : (s.setBayCfg i x).bayCfg i = x := by
  simp [State.bayCfg, State.setBayCfg, Vector.get_eq_getElem]

@[simp] theorem State.bayCfg_setBayCfg_other (s : State) (x : BayCfg) {i j : BayIx} (h : j ≠ i) :
    (s.setBayCfg i x).bayCfg j = s.bayCfg j := by
  have h : i.val ≠ j.val := fun e => h (Fin.ext e.symm)
  simp [State.bayCfg, State.setBayCfg, Vector.get_eq_getElem, h]

@[simp] theorem State.time_setBayCfg (s : State) (i : BayIx) (x : BayCfg) : (s.setBayCfg i x).time = s.time := rfl
@[simp] theorem State.rst_setBayCfg (s : State) (i : BayIx) (x : BayCfg) : (s.setBayCfg i x).rst = s.rst := rfl
@[simp] theorem State.io_setBayCfg (s : State) (i : BayIx) (x : BayCfg) : (s.setBayCfg i x).io = s.io := rfl
@[simp] theorem State.sched_setBayCfg (s : State) (i : BayIx) (x : BayCfg) : (s.setBayCfg i x).sched = s.sched := rfl
@[simp] theorem State.acct_setBayCfg (s : State) (i : BayIx) (x : BayCfg) : (s.setBayCfg i x).acct = s.acct := rfl
@[simp] theorem State.scan_setBayCfg (s : State) (i : BayIx) (x : BayCfg) : (s.setBayCfg i x).scan = s.scan := rfl
@[simp] theorem State.cool_setBayCfg (s : State) (i : BayIx) (x : BayCfg) : (s.setBayCfg i x).cool = s.cool := rfl
@[simp] theorem State.ind_setBayCfg (s : State) (i : BayIx) (x : BayCfg) : (s.setBayCfg i x).ind = s.ind := rfl
@[simp] theorem State.loop_setBayCfg (s : State) (i : BayIx) (x : BayCfg) : (s.setBayCfg i x).loop = s.loop := rfl
@[simp] theorem State.window_setBayCfg (s : State) (i : BayIx) (x : BayCfg) : (s.setBayCfg i x).window = s.window := rfl
@[simp] theorem State.pending_setBayCfg (s : State) (i : BayIx) (x : BayCfg) : (s.setBayCfg i x).pending = s.pending := rfl
@[simp] theorem State.sup_bays_setBayCfg (s : State) (i : BayIx) (x : BayCfg) :
    (s.setBayCfg i x).sup.bays = s.sup.bays := rfl
@[simp] theorem State.sup_carrierMap_setBayCfg (s : State) (i : BayIx) (x : BayCfg) :
    (s.setBayCfg i x).sup.carrierMap = s.sup.carrierMap := rfl
@[simp] theorem State.sup_debounceSetting_setBayCfg (s : State) (i : BayIx) (x : BayCfg) :
    (s.setBayCfg i x).sup.debounceSetting = s.sup.debounceSetting := rfl
@[simp] theorem State.sup_drainSetting_setBayCfg (s : State) (i : BayIx) (x : BayCfg) :
    (s.setBayCfg i x).sup.drainSetting = s.sup.drainSetting := rfl
@[simp] theorem State.sup_attentionEnable_setBayCfg (s : State) (i : BayIx) (x : BayCfg) :
    (s.setBayCfg i x).sup.attentionEnable = s.sup.attentionEnable := rfl
@[simp] theorem State.bay_setBayCfg (s : State) (i : BayIx) (x : BayCfg) (j : BayIx) :
    (s.setBayCfg i x).bay j = s.bay j := rfl
@[simp] theorem State.seen_setBayCfg (s : State) (i : BayIx) (x : BayCfg) (j : BayIx) :
    (s.setBayCfg i x).seen j = s.seen j := rfl
@[simp] theorem State.driveClass_setBayCfg (s : State) (i : BayIx) (x : BayCfg) (j : ClassIx) :
    (s.setBayCfg i x).driveClass j = s.driveClass j := rfl
@[simp] theorem State.temp_setBayCfg (s : State) (i : BayIx) (x : BayCfg) (j : BayIx) :
    (s.setBayCfg i x).temp j = s.temp j := rfl
@[simp] theorem State.channel_setBayCfg (s : State) (i : BayIx) (x : BayCfg) (j : ChannelIx) :
    (s.setBayCfg i x).channel j = s.channel j := rfl
@[simp] theorem State.sensor_setBayCfg (s : State) (i : BayIx) (x : BayCfg) (j : ChannelIx) :
    (s.setBayCfg i x).sensor j = s.sensor j := rfl
@[simp] theorem State.zone_setBayCfg (s : State) (i : BayIx) (x : BayCfg) (j : ZoneIx) :
    (s.setBayCfg i x).zone j = s.zone j := rfl
@[simp] theorem State.zoneCfg_setBayCfg (s : State) (i : BayIx) (x : BayCfg) (j : ZoneIx) :
    (s.setBayCfg i x).zoneCfg j = s.zoneCfg j := rfl
@[simp] theorem State.fan_setBayCfg (s : State) (i : BayIx) (x : BayCfg) (j : FanIx) :
    (s.setBayCfg i x).fan j = s.fan j := rfl
@[simp] theorem State.fanCfg_setBayCfg (s : State) (i : BayIx) (x : BayCfg) (j : FanIx) :
    (s.setBayCfg i x).fanCfg j = s.fanCfg j := rfl
@[simp] theorem State.bayLights_setBayCfg (s : State) (i : BayIx) (x : BayCfg) (j : BayIx) :
    (s.setBayCfg i x).bayLights j = s.bayLights j := rfl
@[simp] theorem State.populated_setBayCfg (s : State) (i : BayIx) (x : BayCfg) (j : BayIx) :
    (s.setBayCfg i x).populated j = s.populated j := rfl
@[simp] theorem State.inReset_setBayCfg (s : State) (i : BayIx) (x : BayCfg) : (s.setBayCfg i x).inReset = s.inReset := rfl
@[simp] theorem State.setBayCfg_setBayCfg (s : State) (i : BayIx) (x y : BayCfg) : (s.setBayCfg i x).setBayCfg i y = s.setBayCfg i y := by
  simp [State.setBayCfg]

@[simp] theorem State.setBayCfg_self (s : State) (i : BayIx) : s.setBayCfg i (s.bayCfg i) = s := by
  simp [State.setBayCfg, State.bayCfg, Vector.get_eq_getElem]

/-! ### setTemp -/

@[simp] theorem State.temp_setTemp_same (s : State) (i : BayIx) (x : Option TempRec) : (s.setTemp i x).temp i = x := by
  simp [State.temp, State.setTemp, Vector.get_eq_getElem]

@[simp] theorem State.temp_setTemp_other (s : State) (x : Option TempRec) {i j : BayIx} (h : j ≠ i) :
    (s.setTemp i x).temp j = s.temp j := by
  have h : i.val ≠ j.val := fun e => h (Fin.ext e.symm)
  simp [State.temp, State.setTemp, Vector.get_eq_getElem, h]

@[simp] theorem State.time_setTemp (s : State) (i : BayIx) (x : Option TempRec) : (s.setTemp i x).time = s.time := rfl
@[simp] theorem State.rst_setTemp (s : State) (i : BayIx) (x : Option TempRec) : (s.setTemp i x).rst = s.rst := rfl
@[simp] theorem State.io_setTemp (s : State) (i : BayIx) (x : Option TempRec) : (s.setTemp i x).io = s.io := rfl
@[simp] theorem State.sup_setTemp (s : State) (i : BayIx) (x : Option TempRec) : (s.setTemp i x).sup = s.sup := rfl
@[simp] theorem State.sched_setTemp (s : State) (i : BayIx) (x : Option TempRec) : (s.setTemp i x).sched = s.sched := rfl
@[simp] theorem State.acct_setTemp (s : State) (i : BayIx) (x : Option TempRec) : (s.setTemp i x).acct = s.acct := rfl
@[simp] theorem State.cool_setTemp (s : State) (i : BayIx) (x : Option TempRec) : (s.setTemp i x).cool = s.cool := rfl
@[simp] theorem State.ind_setTemp (s : State) (i : BayIx) (x : Option TempRec) : (s.setTemp i x).ind = s.ind := rfl
@[simp] theorem State.loop_setTemp (s : State) (i : BayIx) (x : Option TempRec) : (s.setTemp i x).loop = s.loop := rfl
@[simp] theorem State.window_setTemp (s : State) (i : BayIx) (x : Option TempRec) : (s.setTemp i x).window = s.window := rfl
@[simp] theorem State.pending_setTemp (s : State) (i : BayIx) (x : Option TempRec) : (s.setTemp i x).pending = s.pending := rfl
@[simp] theorem State.scan_channels_setTemp (s : State) (i : BayIx) (x : Option TempRec) :
    (s.setTemp i x).scan.channels = s.scan.channels := rfl
@[simp] theorem State.scan_sensors_setTemp (s : State) (i : BayIx) (x : Option TempRec) :
    (s.setTemp i x).scan.sensors = s.scan.sensors := rfl
@[simp] theorem State.scan_pointer_setTemp (s : State) (i : BayIx) (x : Option TempRec) :
    (s.setTemp i x).scan.pointer = s.scan.pointer := rfl
@[simp] theorem State.scan_converting_setTemp (s : State) (i : BayIx) (x : Option TempRec) :
    (s.setTemp i x).scan.converting = s.scan.converting := rfl
@[simp] theorem State.scan_slotDue_setTemp (s : State) (i : BayIx) (x : Option TempRec) :
    (s.setTemp i x).scan.slotDue = s.scan.slotDue := rfl
@[simp] theorem State.scan_staleness_setTemp (s : State) (i : BayIx) (x : Option TempRec) :
    (s.setTemp i x).scan.staleness = s.scan.staleness := rfl
@[simp] theorem State.bay_setTemp (s : State) (i : BayIx) (x : Option TempRec) (j : BayIx) :
    (s.setTemp i x).bay j = s.bay j := rfl
@[simp] theorem State.bayCfg_setTemp (s : State) (i : BayIx) (x : Option TempRec) (j : BayIx) :
    (s.setTemp i x).bayCfg j = s.bayCfg j := rfl
@[simp] theorem State.seen_setTemp (s : State) (i : BayIx) (x : Option TempRec) (j : BayIx) :
    (s.setTemp i x).seen j = s.seen j := rfl
@[simp] theorem State.driveClass_setTemp (s : State) (i : BayIx) (x : Option TempRec) (j : ClassIx) :
    (s.setTemp i x).driveClass j = s.driveClass j := rfl
@[simp] theorem State.channel_setTemp (s : State) (i : BayIx) (x : Option TempRec) (j : ChannelIx) :
    (s.setTemp i x).channel j = s.channel j := rfl
@[simp] theorem State.sensor_setTemp (s : State) (i : BayIx) (x : Option TempRec) (j : ChannelIx) :
    (s.setTemp i x).sensor j = s.sensor j := rfl
@[simp] theorem State.zone_setTemp (s : State) (i : BayIx) (x : Option TempRec) (j : ZoneIx) :
    (s.setTemp i x).zone j = s.zone j := rfl
@[simp] theorem State.zoneCfg_setTemp (s : State) (i : BayIx) (x : Option TempRec) (j : ZoneIx) :
    (s.setTemp i x).zoneCfg j = s.zoneCfg j := rfl
@[simp] theorem State.fan_setTemp (s : State) (i : BayIx) (x : Option TempRec) (j : FanIx) :
    (s.setTemp i x).fan j = s.fan j := rfl
@[simp] theorem State.fanCfg_setTemp (s : State) (i : BayIx) (x : Option TempRec) (j : FanIx) :
    (s.setTemp i x).fanCfg j = s.fanCfg j := rfl
@[simp] theorem State.bayLights_setTemp (s : State) (i : BayIx) (x : Option TempRec) (j : BayIx) :
    (s.setTemp i x).bayLights j = s.bayLights j := rfl
@[simp] theorem State.populated_setTemp (s : State) (i : BayIx) (x : Option TempRec) (j : BayIx) :
    (s.setTemp i x).populated j = s.populated j := rfl
@[simp] theorem State.inReset_setTemp (s : State) (i : BayIx) (x : Option TempRec) : (s.setTemp i x).inReset = s.inReset := rfl
@[simp] theorem State.setTemp_setTemp (s : State) (i : BayIx) (x y : Option TempRec) : (s.setTemp i x).setTemp i y = s.setTemp i y := by
  simp [State.setTemp]

@[simp] theorem State.setTemp_self (s : State) (i : BayIx) : s.setTemp i (s.temp i) = s := by
  simp [State.setTemp, State.temp, Vector.get_eq_getElem]

/-! ### setChannel -/

@[simp] theorem State.channel_setChannel_same (s : State) (i : ChannelIx) (x : Channel) : (s.setChannel i x).channel i = x := by
  simp [State.channel, State.setChannel, Vector.get_eq_getElem]

@[simp] theorem State.channel_setChannel_other (s : State) (x : Channel) {i j : ChannelIx} (h : j ≠ i) :
    (s.setChannel i x).channel j = s.channel j := by
  have h : i.val ≠ j.val := fun e => h (Fin.ext e.symm)
  simp [State.channel, State.setChannel, Vector.get_eq_getElem, h]

@[simp] theorem State.time_setChannel (s : State) (i : ChannelIx) (x : Channel) : (s.setChannel i x).time = s.time := rfl
@[simp] theorem State.rst_setChannel (s : State) (i : ChannelIx) (x : Channel) : (s.setChannel i x).rst = s.rst := rfl
@[simp] theorem State.io_setChannel (s : State) (i : ChannelIx) (x : Channel) : (s.setChannel i x).io = s.io := rfl
@[simp] theorem State.sup_setChannel (s : State) (i : ChannelIx) (x : Channel) : (s.setChannel i x).sup = s.sup := rfl
@[simp] theorem State.sched_setChannel (s : State) (i : ChannelIx) (x : Channel) : (s.setChannel i x).sched = s.sched := rfl
@[simp] theorem State.acct_setChannel (s : State) (i : ChannelIx) (x : Channel) : (s.setChannel i x).acct = s.acct := rfl
@[simp] theorem State.cool_setChannel (s : State) (i : ChannelIx) (x : Channel) : (s.setChannel i x).cool = s.cool := rfl
@[simp] theorem State.ind_setChannel (s : State) (i : ChannelIx) (x : Channel) : (s.setChannel i x).ind = s.ind := rfl
@[simp] theorem State.loop_setChannel (s : State) (i : ChannelIx) (x : Channel) : (s.setChannel i x).loop = s.loop := rfl
@[simp] theorem State.window_setChannel (s : State) (i : ChannelIx) (x : Channel) : (s.setChannel i x).window = s.window := rfl
@[simp] theorem State.pending_setChannel (s : State) (i : ChannelIx) (x : Channel) : (s.setChannel i x).pending = s.pending := rfl
@[simp] theorem State.scan_sensors_setChannel (s : State) (i : ChannelIx) (x : Channel) :
    (s.setChannel i x).scan.sensors = s.scan.sensors := rfl
@[simp] theorem State.scan_pointer_setChannel (s : State) (i : ChannelIx) (x : Channel) :
    (s.setChannel i x).scan.pointer = s.scan.pointer := rfl
@[simp] theorem State.scan_converting_setChannel (s : State) (i : ChannelIx) (x : Channel) :
    (s.setChannel i x).scan.converting = s.scan.converting := rfl
@[simp] theorem State.scan_slotDue_setChannel (s : State) (i : ChannelIx) (x : Channel) :
    (s.setChannel i x).scan.slotDue = s.scan.slotDue := rfl
@[simp] theorem State.scan_temps_setChannel (s : State) (i : ChannelIx) (x : Channel) :
    (s.setChannel i x).scan.temps = s.scan.temps := rfl
@[simp] theorem State.scan_staleness_setChannel (s : State) (i : ChannelIx) (x : Channel) :
    (s.setChannel i x).scan.staleness = s.scan.staleness := rfl
@[simp] theorem State.bay_setChannel (s : State) (i : ChannelIx) (x : Channel) (j : BayIx) :
    (s.setChannel i x).bay j = s.bay j := rfl
@[simp] theorem State.bayCfg_setChannel (s : State) (i : ChannelIx) (x : Channel) (j : BayIx) :
    (s.setChannel i x).bayCfg j = s.bayCfg j := rfl
@[simp] theorem State.seen_setChannel (s : State) (i : ChannelIx) (x : Channel) (j : BayIx) :
    (s.setChannel i x).seen j = s.seen j := rfl
@[simp] theorem State.driveClass_setChannel (s : State) (i : ChannelIx) (x : Channel) (j : ClassIx) :
    (s.setChannel i x).driveClass j = s.driveClass j := rfl
@[simp] theorem State.temp_setChannel (s : State) (i : ChannelIx) (x : Channel) (j : BayIx) :
    (s.setChannel i x).temp j = s.temp j := rfl
@[simp] theorem State.sensor_setChannel (s : State) (i : ChannelIx) (x : Channel) (j : ChannelIx) :
    (s.setChannel i x).sensor j = s.sensor j := rfl
@[simp] theorem State.zone_setChannel (s : State) (i : ChannelIx) (x : Channel) (j : ZoneIx) :
    (s.setChannel i x).zone j = s.zone j := rfl
@[simp] theorem State.zoneCfg_setChannel (s : State) (i : ChannelIx) (x : Channel) (j : ZoneIx) :
    (s.setChannel i x).zoneCfg j = s.zoneCfg j := rfl
@[simp] theorem State.fan_setChannel (s : State) (i : ChannelIx) (x : Channel) (j : FanIx) :
    (s.setChannel i x).fan j = s.fan j := rfl
@[simp] theorem State.fanCfg_setChannel (s : State) (i : ChannelIx) (x : Channel) (j : FanIx) :
    (s.setChannel i x).fanCfg j = s.fanCfg j := rfl
@[simp] theorem State.bayLights_setChannel (s : State) (i : ChannelIx) (x : Channel) (j : BayIx) :
    (s.setChannel i x).bayLights j = s.bayLights j := rfl
@[simp] theorem State.populated_setChannel (s : State) (i : ChannelIx) (x : Channel) (j : BayIx) :
    (s.setChannel i x).populated j = s.populated j := rfl
@[simp] theorem State.inReset_setChannel (s : State) (i : ChannelIx) (x : Channel) : (s.setChannel i x).inReset = s.inReset := rfl
@[simp] theorem State.setChannel_setChannel (s : State) (i : ChannelIx) (x y : Channel) : (s.setChannel i x).setChannel i y = s.setChannel i y := by
  simp [State.setChannel]

@[simp] theorem State.setChannel_self (s : State) (i : ChannelIx) : s.setChannel i (s.channel i) = s := by
  simp [State.setChannel, State.channel, Vector.get_eq_getElem]

/-! ### setFan -/

@[simp] theorem State.fan_setFan_same (s : State) (i : FanIx) (x : Fan) : (s.setFan i x).fan i = x := by
  simp [State.fan, State.setFan, Vector.get_eq_getElem]

@[simp] theorem State.fan_setFan_other (s : State) (x : Fan) {i j : FanIx} (h : j ≠ i) :
    (s.setFan i x).fan j = s.fan j := by
  have h : i.val ≠ j.val := fun e => h (Fin.ext e.symm)
  simp [State.fan, State.setFan, Vector.get_eq_getElem, h]

@[simp] theorem State.time_setFan (s : State) (i : FanIx) (x : Fan) : (s.setFan i x).time = s.time := rfl
@[simp] theorem State.rst_setFan (s : State) (i : FanIx) (x : Fan) : (s.setFan i x).rst = s.rst := rfl
@[simp] theorem State.io_setFan (s : State) (i : FanIx) (x : Fan) : (s.setFan i x).io = s.io := rfl
@[simp] theorem State.sup_setFan (s : State) (i : FanIx) (x : Fan) : (s.setFan i x).sup = s.sup := rfl
@[simp] theorem State.sched_setFan (s : State) (i : FanIx) (x : Fan) : (s.setFan i x).sched = s.sched := rfl
@[simp] theorem State.acct_setFan (s : State) (i : FanIx) (x : Fan) : (s.setFan i x).acct = s.acct := rfl
@[simp] theorem State.scan_setFan (s : State) (i : FanIx) (x : Fan) : (s.setFan i x).scan = s.scan := rfl
@[simp] theorem State.ind_setFan (s : State) (i : FanIx) (x : Fan) : (s.setFan i x).ind = s.ind := rfl
@[simp] theorem State.loop_setFan (s : State) (i : FanIx) (x : Fan) : (s.setFan i x).loop = s.loop := rfl
@[simp] theorem State.window_setFan (s : State) (i : FanIx) (x : Fan) : (s.setFan i x).window = s.window := rfl
@[simp] theorem State.pending_setFan (s : State) (i : FanIx) (x : Fan) : (s.setFan i x).pending = s.pending := rfl
@[simp] theorem State.cool_zones_setFan (s : State) (i : FanIx) (x : Fan) :
    (s.setFan i x).cool.zones = s.cool.zones := rfl
@[simp] theorem State.cool_zoneCfg_setFan (s : State) (i : FanIx) (x : Fan) :
    (s.setFan i x).cool.zoneCfg = s.cool.zoneCfg := rfl
@[simp] theorem State.cool_fanCfg_setFan (s : State) (i : FanIx) (x : Fan) :
    (s.setFan i x).cool.fanCfg = s.cool.fanCfg := rfl
@[simp] theorem State.cool_pendingCurves_setFan (s : State) (i : FanIx) (x : Fan) :
    (s.setFan i x).cool.pendingCurves = s.cool.pendingCurves := rfl
@[simp] theorem State.cool_activeCurves_setFan (s : State) (i : FanIx) (x : Fan) :
    (s.setFan i x).cool.activeCurves = s.cool.activeCurves := rfl
@[simp] theorem State.cool_period_setFan (s : State) (i : FanIx) (x : Fan) :
    (s.setFan i x).cool.period = s.cool.period := rfl
@[simp] theorem State.cool_upStep_setFan (s : State) (i : FanIx) (x : Fan) :
    (s.setFan i x).cool.upStep = s.cool.upStep := rfl
@[simp] theorem State.cool_downStep_setFan (s : State) (i : FanIx) (x : Fan) :
    (s.setFan i x).cool.downStep = s.cool.downStep := rfl
@[simp] theorem State.cool_periodEnd_setFan (s : State) (i : FanIx) (x : Fan) :
    (s.setFan i x).cool.periodEnd = s.cool.periodEnd := rfl
@[simp] theorem State.cool_periodLength_setFan (s : State) (i : FanIx) (x : Fan) :
    (s.setFan i x).cool.periodLength = s.cool.periodLength := rfl
@[simp] theorem State.bay_setFan (s : State) (i : FanIx) (x : Fan) (j : BayIx) :
    (s.setFan i x).bay j = s.bay j := rfl
@[simp] theorem State.bayCfg_setFan (s : State) (i : FanIx) (x : Fan) (j : BayIx) :
    (s.setFan i x).bayCfg j = s.bayCfg j := rfl
@[simp] theorem State.seen_setFan (s : State) (i : FanIx) (x : Fan) (j : BayIx) :
    (s.setFan i x).seen j = s.seen j := rfl
@[simp] theorem State.driveClass_setFan (s : State) (i : FanIx) (x : Fan) (j : ClassIx) :
    (s.setFan i x).driveClass j = s.driveClass j := rfl
@[simp] theorem State.temp_setFan (s : State) (i : FanIx) (x : Fan) (j : BayIx) :
    (s.setFan i x).temp j = s.temp j := rfl
@[simp] theorem State.channel_setFan (s : State) (i : FanIx) (x : Fan) (j : ChannelIx) :
    (s.setFan i x).channel j = s.channel j := rfl
@[simp] theorem State.sensor_setFan (s : State) (i : FanIx) (x : Fan) (j : ChannelIx) :
    (s.setFan i x).sensor j = s.sensor j := rfl
@[simp] theorem State.zone_setFan (s : State) (i : FanIx) (x : Fan) (j : ZoneIx) :
    (s.setFan i x).zone j = s.zone j := rfl
@[simp] theorem State.zoneCfg_setFan (s : State) (i : FanIx) (x : Fan) (j : ZoneIx) :
    (s.setFan i x).zoneCfg j = s.zoneCfg j := rfl
@[simp] theorem State.fanCfg_setFan (s : State) (i : FanIx) (x : Fan) (j : FanIx) :
    (s.setFan i x).fanCfg j = s.fanCfg j := rfl
@[simp] theorem State.bayLights_setFan (s : State) (i : FanIx) (x : Fan) (j : BayIx) :
    (s.setFan i x).bayLights j = s.bayLights j := rfl
@[simp] theorem State.populated_setFan (s : State) (i : FanIx) (x : Fan) (j : BayIx) :
    (s.setFan i x).populated j = s.populated j := rfl
@[simp] theorem State.inReset_setFan (s : State) (i : FanIx) (x : Fan) : (s.setFan i x).inReset = s.inReset := rfl
@[simp] theorem State.setFan_setFan (s : State) (i : FanIx) (x y : Fan) : (s.setFan i x).setFan i y = s.setFan i y := by
  simp [State.setFan]

@[simp] theorem State.setFan_self (s : State) (i : FanIx) : s.setFan i (s.fan i) = s := by
  simp [State.setFan, State.fan, Vector.get_eq_getElem]

/-! ### setBayLights -/

@[simp] theorem State.bayLights_setBayLights_same (s : State) (i : BayIx) (x : BayLights) : (s.setBayLights i x).bayLights i = x := by
  simp [State.bayLights, State.setBayLights, Vector.get_eq_getElem]

@[simp] theorem State.bayLights_setBayLights_other (s : State) (x : BayLights) {i j : BayIx} (h : j ≠ i) :
    (s.setBayLights i x).bayLights j = s.bayLights j := by
  have h : i.val ≠ j.val := fun e => h (Fin.ext e.symm)
  simp [State.bayLights, State.setBayLights, Vector.get_eq_getElem, h]

@[simp] theorem State.time_setBayLights (s : State) (i : BayIx) (x : BayLights) : (s.setBayLights i x).time = s.time := rfl
@[simp] theorem State.rst_setBayLights (s : State) (i : BayIx) (x : BayLights) : (s.setBayLights i x).rst = s.rst := rfl
@[simp] theorem State.io_setBayLights (s : State) (i : BayIx) (x : BayLights) : (s.setBayLights i x).io = s.io := rfl
@[simp] theorem State.sup_setBayLights (s : State) (i : BayIx) (x : BayLights) : (s.setBayLights i x).sup = s.sup := rfl
@[simp] theorem State.sched_setBayLights (s : State) (i : BayIx) (x : BayLights) : (s.setBayLights i x).sched = s.sched := rfl
@[simp] theorem State.acct_setBayLights (s : State) (i : BayIx) (x : BayLights) : (s.setBayLights i x).acct = s.acct := rfl
@[simp] theorem State.scan_setBayLights (s : State) (i : BayIx) (x : BayLights) : (s.setBayLights i x).scan = s.scan := rfl
@[simp] theorem State.cool_setBayLights (s : State) (i : BayIx) (x : BayLights) : (s.setBayLights i x).cool = s.cool := rfl
@[simp] theorem State.loop_setBayLights (s : State) (i : BayIx) (x : BayLights) : (s.setBayLights i x).loop = s.loop := rfl
@[simp] theorem State.window_setBayLights (s : State) (i : BayIx) (x : BayLights) : (s.setBayLights i x).window = s.window := rfl
@[simp] theorem State.pending_setBayLights (s : State) (i : BayIx) (x : BayLights) : (s.setBayLights i x).pending = s.pending := rfl
@[simp] theorem State.ind_patterns_setBayLights (s : State) (i : BayIx) (x : BayLights) :
    (s.setBayLights i x).ind.patterns = s.ind.patterns := rfl
@[simp] theorem State.ind_rules_setBayLights (s : State) (i : BayIx) (x : BayLights) :
    (s.setBayLights i x).ind.rules = s.ind.rules := rfl
@[simp] theorem State.ind_brightness_setBayLights (s : State) (i : BayIx) (x : BayLights) :
    (s.setBayLights i x).ind.brightness = s.ind.brightness := rfl
@[simp] theorem State.ind_epoch_setBayLights (s : State) (i : BayIx) (x : BayLights) :
    (s.setBayLights i x).ind.epoch = s.ind.epoch := rfl
@[simp] theorem State.ind_levels_setBayLights (s : State) (i : BayIx) (x : BayLights) :
    (s.setBayLights i x).ind.levels = s.ind.levels := rfl
@[simp] theorem State.ind_resolutionDue_setBayLights (s : State) (i : BayIx) (x : BayLights) :
    (s.setBayLights i x).ind.resolutionDue = s.ind.resolutionDue := rfl
@[simp] theorem State.bay_setBayLights (s : State) (i : BayIx) (x : BayLights) (j : BayIx) :
    (s.setBayLights i x).bay j = s.bay j := rfl
@[simp] theorem State.bayCfg_setBayLights (s : State) (i : BayIx) (x : BayLights) (j : BayIx) :
    (s.setBayLights i x).bayCfg j = s.bayCfg j := rfl
@[simp] theorem State.seen_setBayLights (s : State) (i : BayIx) (x : BayLights) (j : BayIx) :
    (s.setBayLights i x).seen j = s.seen j := rfl
@[simp] theorem State.driveClass_setBayLights (s : State) (i : BayIx) (x : BayLights) (j : ClassIx) :
    (s.setBayLights i x).driveClass j = s.driveClass j := rfl
@[simp] theorem State.temp_setBayLights (s : State) (i : BayIx) (x : BayLights) (j : BayIx) :
    (s.setBayLights i x).temp j = s.temp j := rfl
@[simp] theorem State.channel_setBayLights (s : State) (i : BayIx) (x : BayLights) (j : ChannelIx) :
    (s.setBayLights i x).channel j = s.channel j := rfl
@[simp] theorem State.sensor_setBayLights (s : State) (i : BayIx) (x : BayLights) (j : ChannelIx) :
    (s.setBayLights i x).sensor j = s.sensor j := rfl
@[simp] theorem State.zone_setBayLights (s : State) (i : BayIx) (x : BayLights) (j : ZoneIx) :
    (s.setBayLights i x).zone j = s.zone j := rfl
@[simp] theorem State.zoneCfg_setBayLights (s : State) (i : BayIx) (x : BayLights) (j : ZoneIx) :
    (s.setBayLights i x).zoneCfg j = s.zoneCfg j := rfl
@[simp] theorem State.fan_setBayLights (s : State) (i : BayIx) (x : BayLights) (j : FanIx) :
    (s.setBayLights i x).fan j = s.fan j := rfl
@[simp] theorem State.fanCfg_setBayLights (s : State) (i : BayIx) (x : BayLights) (j : FanIx) :
    (s.setBayLights i x).fanCfg j = s.fanCfg j := rfl
@[simp] theorem State.populated_setBayLights (s : State) (i : BayIx) (x : BayLights) (j : BayIx) :
    (s.setBayLights i x).populated j = s.populated j := rfl
@[simp] theorem State.inReset_setBayLights (s : State) (i : BayIx) (x : BayLights) : (s.setBayLights i x).inReset = s.inReset := rfl
@[simp] theorem State.setBayLights_setBayLights (s : State) (i : BayIx) (x y : BayLights) : (s.setBayLights i x).setBayLights i y = s.setBayLights i y := by
  simp [State.setBayLights]

@[simp] theorem State.setBayLights_self (s : State) (i : BayIx) : s.setBayLights i (s.bayLights i) = s := by
  simp [State.setBayLights, State.bayLights, Vector.get_eq_getElem]

end Sys2Proof.Machine
end

