-- ==== Sys2Proof/Laws/Bays.lean ====
section
/-! SUPPORT. The shared bay transitions in the terms of the statements: what each makes of a working record. -/

namespace Sys2Proof.Machine

open Sys2Proof.Safety

@[simp] theorem AttnSet.union_onlyPresence (a : AttnSet) : a.union .onlyPresence = { a with presence := true } := by
  simp [AttnSet.union, AttnSet.onlyPresence]

@[simp] theorem AttnSet.union_onlyPower (a : AttnSet) : a.union .onlyPower = { a with power := true } := by
  simp [AttnSet.union, AttnSet.onlyPower]

@[simp] theorem AttnSet.union_onlyFault (a : AttnSet) : a.union .onlyFault = { a with fault := true } := by
  simp [AttnSet.union, AttnSet.onlyFault]

@[simp] theorem AttnSet.union_onlyResetDone (a : AttnSet) : a.union .onlyResetDone = { a with resetDone := true } := by
  simp [AttnSet.union, AttnSet.onlyResetDone]

@[simp] theorem AttnSet.union_onlyTemperature (a : AttnSet) :
    a.union .onlyTemperature = { a with temperature := true } := by
  simp [AttnSet.union, AttnSet.onlyTemperature]

/-- Power removal is the record of `unpowered` and a cleared temperature. -/
theorem removePower_eq (b : BayIx) (next : BayState) (w : Work) :
    removePower b next w =
      w.map fun s => (s.setBay b { unpowered s.sup.drainSetting (s.bay b) with state := next }).setTemp b none := by
  simp [removePower, Work.setBay, Work.map, unpowered]

/-- A bay that is not powered takes the record of `faulted`. -/
theorem enterFault_unpowered {b : BayIx} {cause : FaultCause} {w : Work} (h : (w.st.bay b).powered = false) :
    enterFault b cause w = w.setBay b (faulted cause (w.st.bay b)) := by
  simp [enterFault, h, faulted]

/-- A powered bay loses its power first. -/
theorem enterFault_powered {b : BayIx} {cause : FaultCause} {w : Work} (h : (w.st.bay b).powered = true) :
    enterFault b cause w =
      (removePower b .fault w).setBay b (faulted cause ((removePower b .fault w).st.bay b)) := by
  simp [enterFault, h, faulted]

/-- Entry to EMPTY is the record of `emptied`. -/
theorem enterEmpty_eq (b : BayIx) (w : Work) : enterEmpty b w = w.setBay b (emptied (w.st.bay b)) := rfl

/-- Entry to SETTLING is the record of `startSettling`. -/
theorem enterSettling_eq (b : BayIx) (w : Work) :
    enterSettling b w = w.setBay b (startSettling (w.st.sup.debounceSetting * 10) (w.st.bay b)) := rfl

/-- Entry to RUN of a bay with a drive class is the record of `startRunning`. -/
theorem enterRun_eq {b : BayIx} {w : Work} {c : ClassIx} (h : (w.st.bay b).cls = .cls c) :
    enterRun b w = w.setBay b (startRunning (w.st.driveClass c).resetHold (w.st.bay b)) := by
  simp [enterRun, State.classOf, h, startRunning]

/-- The desire is that of the record under the bay's policy. -/
theorem desire_eq (s : State) (b : BayIx) : desire s b = wants (s.bayCfg b).policy (s.bay b) := by
  unfold desire wants
  cases (s.bay b).mgmtIntent <;> cases (s.bay b).loopIntent <;> rfl

/-- The expedite flag after an evaluation is that of `evaluated`. -/
theorem setExpedite_eq (b : BayIx) (w : Work) :
    (if decidedByExpedite w.st b then setExpedite b w else w).st =
      if decidedByExpedite w.st b then w.st.setBay b (evaluated (w.st.bay b)) else w.st := by
  by_cases h : decidedByExpedite w.st b = true
  · have h' : (w.st.bay b).mgmtIntent = .none ∧ (w.st.bay b).loopIntent = .onExpedite := by
      simpa [decidedByExpedite] using h
    simp [h, setExpedite, Work.setBay, Work.map, evaluated, h'.1, h'.2]
  · simp [h]

/-- A class resolution answers what `classAnswer` answers for the stored carrier code. -/
theorem resolution_eq (s : State) (b : BayIx) : resolution s b = classAnswer s b (s.bay b).carrier := rfl

/-! ### The evaluation of a desire -/

@[simp] theorem Work.withdraw_bay (w : Work) (b d : BayIx) : (w.withdraw b).st.bay d = w.st.bay d := rfl

@[simp] theorem State.setBay_budgetLimit (s : State) (b : BayIx) (x : Bay) :
    (s.setBay b x).budgetLimit = s.budgetLimit := rfl

/-- The record that an entry to QUEUED leaves, at either end of the queue (R14). -/
theorem enterQueued_bay_same (b : BayIx) (w : Work) :
    (enterQueued b w).st.bay b = { w.st.bay b with state := .queued, expedite := false } := by
  unfold enterQueued
  by_cases h : (w.st.bay b).expedite = true <;> simp [h, Work.setBay, Work.map, Work.enterHead, Work.enterTail]

/-- The record that the evaluation of a desire leaves (R12, R14, R15, R19). -/
theorem evaluate_bay_same (b : BayIx) (w : Work) :
    (evaluate b w).st.bay b =
      obeyedRecord w.st.budgetLimit (fun c => (w.st.driveClass c).surge) w.st.sup.drainSetting (w.st.bayCfg b).policy
        (w.st.bay b) := by
  obtain ⟨s, tl, hd, o⟩ := w
  rcases hb : s.bay b with ⟨state, cls, carrier, cause, retries, debounce, drain, dd, spin, rh, removed, loopIntent,
    mgmtIntent, expedite, attn, presence, pg, sf⟩
  cases state <;> cases mgmtIntent <;> cases loopIntent <;>
    simp [evaluate, decidedByExpedite, hb, setExpedite, Work.setBay, Work.map, desire_eq, wants, evaluated, obeyedRecord,
      actInIdle, removePower_eq, unpowered]
  all_goals try (cases expedite <;> simp [hb, moveToHead, Work.setBay, Work.map, Work.enterHead])
  all_goals try (split <;> try rfl)
  all_goals repeat' split
  all_goals simp_all [overBudget, enterQueued_bay_same, enterFault_unpowered, Bay.powered, faulted, Work.setBay, Work.map]
  all_goals omega

/-- The record that the evaluation after a restored policy leaves (R37, R50). -/
theorem evaluateRestored_bay_same (b : BayIx) (w : Work) :
    (evaluateRestored b w).st.bay b =
      if (w.st.bay b).state = .queued ∧ wants (w.st.bayCfg b).policy (w.st.bay b) = true then w.st.bay b
      else obeyedRecord w.st.budgetLimit (fun c => (w.st.driveClass c).surge) w.st.sup.drainSetting
        (w.st.bayCfg b).policy (w.st.bay b) := by
  unfold evaluateRestored
  rw [desire_eq]
  by_cases h : (w.st.bay b).state = .queued <;>
    by_cases k : wants (w.st.bayCfg b).policy (w.st.bay b) = true <;> simp [h, k, evaluate_bay_same]

/-- The record that a class re-resolution leaves (R31, R63). -/
theorem reresolve_bay_same (b : BayIx) (w : Work) :
    (reresolve b w).st.bay b =
      reclassedRecord w.st.budgetLimit (fun c => (w.st.driveClass c).surge)
        (obeyedRecord w.st.budgetLimit (fun c => (w.st.driveClass c).surge) w.st.sup.drainSetting (w.st.bayCfg b).policy)
        (classAnswer w.st b (w.st.bay b).carrier) (w.st.bay b) := by
  obtain ⟨s, tl, hd, o⟩ := w
  unfold reresolve reclassedRecord
  rw [resolution_eq]
  cases hst : (s.bay b).state <;> cases ha : classAnswer s b (s.bay b).carrier <;>
    simp [hst, evaluate_bay_same, Work.setBay, Work.map, Work.owe, enterFault, Bay.powered, faulted, overBudget]
  all_goals first | rfl | (split <;> simp_all)

/-- Entry to FAULT leaves the Loop Engine and the reset triggers alone (R26). -/
theorem enterFault_loop_rst (b : BayIx) (c : FaultCause) (w : Work) :
    (enterFault b c w).st.loop = w.st.loop ∧ (enterFault b c w).st.rst = w.st.rst := by
  unfold enterFault removePower
  constructor <;> simp only [Work.setBay, Work.map] <;> split <;> rfl

/-- The evaluation of a desire leaves the Loop Engine and the reset triggers alone (R12). -/
theorem evaluate_loop_rst (b : BayIx) (w : Work) :
    (evaluate b w).st.loop = w.st.loop ∧ (evaluate b w).st.rst = w.st.rst := by
  unfold evaluate actInIdle enterQueued moveToHead removePower
  simp only []
  repeat' split
  all_goals first | exact ⟨rfl, rfl⟩ | exact enterFault_loop_rst ..

end Sys2Proof.Machine
end

