-- ==== Sys2Proof/Laws/Staging.lean ====
section
/-! SUPPORT. What the shared operations of the Staging Scheduler can do: the group entry, the walk, the attempt, and
the end of an event. -/

namespace Sys2Proof.Machine

open Sys2Proof.Safety

/-! ### Sums and comparisons that an update does not move -/

theorem State.classOf_congr {s t : State} {b : BayIx} (hc : t.sched.classes = s.sched.classes)
    (hb : (t.bay b).cls = (s.bay b).cls) : t.classOf b = s.classOf b := by
  simp only [State.classOf, State.driveClass, hb, hc]

theorem State.draw_congr {s t : State} {b : BayIx} (hc : t.sched.classes = s.sched.classes)
    (hs : (t.bay b).state = (s.bay b).state) (hb : (t.bay b).cls = (s.bay b).cls) : t.draw b = s.draw b := by
  simp only [State.draw, State.classOf_congr hc hb, hs]

theorem State.draw_unpowered {s : State} {b : BayIx} (h : (s.bay b).powered = false) : s.draw b = 0 := by
  simp only [Bay.powered, Bool.or_eq_false_iff, decide_eq_false_iff_not] at h
  unfold State.draw
  split <;> simp [h]

theorem State.committed_congr {s t : State} (h : ∀ b, t.draw b = s.draw b) : t.committed = s.committed := by
  have : t.draw = s.draw := funext h
  simp only [State.committed, this]

/-- Replacing a record by one that draws the same leaves the committed draw. -/
theorem State.committed_setBay {s : State} {b : BayIx} {x : Bay} (h : (s.setBay b x).draw b = s.draw b) :
    (s.setBay b x).committed = s.committed := by
  refine State.committed_congr fun c => ?_
  by_cases hc : c = b
  · subst hc; exact h
  · exact State.draw_congr rfl (by simp [hc]) (by simp [hc])

theorem holdCleared_of_zones_eq {s t : State} (h : t.cool.zones = s.cool.zones) : holdCleared s t = false := by
  simp [holdCleared, State.zone, h]

/-- An event that keeps the committed draw, the account and the zone records is no attempt point by itself. -/
theorem fellOrCleared_quiet {s t : State} (hd : t.committed = s.committed) (ha : t.acct = s.acct)
    (hz : t.cool.zones = s.cool.zones) : fellOrCleared s t = false := by
  simp [fellOrCleared, hd, ha, holdCleared_of_zones_eq hz]

/-! ### The end of an event -/

@[simp] theorem groupedQueue_nil (q : List BayIx) : groupedQueue q [] [] = q := by
  simp [groupedQueue]

@[simp] theorem Work.entered_nil (s : State) (o : Bool) : (Work.mk s [] [] o).entered = s := by
  simp [Work.entered]

/-- An event with no entries, nothing owed and nothing fallen or cleared ends with its changes. -/
theorem event_quiet {f : Work → Work} {s t : State} (hf : f (Work.start s) = ⟨t, [], [], false⟩)
    (hq : fellOrCleared s t = false) : event f s = t := by
  simp [event, hf, Work.finish, hq]

/-- An event with no entries ends with its changes and, at an attempt point, one attempt. -/
theorem event_noEntries {f : Work → Work} {s t : State} {o : Bool} (hf : f (Work.start s) = ⟨t, [], [], o⟩) :
    event f s = if o || fellOrCleared s t then attempt t else t := by
  simp [event, hf, Work.finish]

/-- An event that enters bays ends with the group in the queue and one attempt. -/
theorem event_entries {f : Work → Work} {s : State} {w : Work} (hf : f (Work.start s) = w)
    (h : w.tails ≠ [] ∨ w.heads ≠ []) : event f s = attempt w.entered := by
  rcases h with h | h <;> simp [event, hf, Work.finish, h]

/-! ### The walk -/

end Sys2Proof.Machine

namespace Sys2Proof.Safety

open Sys2Proof.Machine

theorem OnlyAdmits.refl (s : State) : OnlyAdmits s s :=
  ⟨rfl, rfl, List.Sublist.refl _, Nat.le_refl _, fun _ => .inl rfl, rfl⟩

theorem OnlyAdmits.time {s t : State} (h : OnlyAdmits s t) : t.time = s.time := by rw [h.rest]

theorem OnlyAdmits.classes {s t : State} (h : OnlyAdmits s t) : t.sched.classes = s.sched.classes := by
  rw [h.sched]

theorem OnlyAdmits.trans {s t u : State} (h : OnlyAdmits s t) (k : OnlyAdmits t u) : OnlyAdmits s u where
  sched := by rw [k.sched, h.sched]
  sup := by rw [k.sup, h.sup]
  queue := k.queue.trans h.queue
  admissions := Nat.le_trans h.admissions k.admissions
  bay b := by
    rcases h.bay b with hb | ⟨hq, c, hc, hs⟩
    · rcases k.bay b with kb | ⟨kq, c, kc, ks⟩
      · exact .inl (kb.trans hb)
      · refine .inr ⟨hb ▸ kq, c, ?_, ?_⟩
        · rw [← kc]; exact (State.classOf_congr h.classes (by rw [hb])).symm
        · rw [ks, hb]; simp only [admitted, h.time]
    · rcases k.bay b with kb | ⟨kq, _, _, ks⟩
      · exact .inr ⟨hq, c, hc, kb.trans hs⟩
      · rw [hs] at kq; exact absurd kq (by simp [admitted])
  rest := by rw [k.rest, h.rest]

end Sys2Proof.Safety

namespace Sys2Proof.Machine

open Sys2Proof.Safety

@[simp] theorem admitBay_bay_same (b : BayIx) (c : DriveClass) (s : State) :
    (admitBay b c s).bay b = admitted s c (s.bay b) :=
  State.bay_setBay_same s b (admitted s c (s.bay b))

@[simp] theorem admitBay_bay_other {b d : BayIx} (c : DriveClass) (s : State) (h : d ≠ b) :
    (admitBay b c s).bay d = s.bay d :=
  State.bay_setBay_other s (admitted s c (s.bay b)) h

theorem admitBay_onlyAdmits {b : BayIx} {c : DriveClass} {s : State} (h : (s.bay b).state = .queued)
    (hc : s.classOf b = some c) : OnlyAdmits s (admitBay b c s) where
  sched := rfl
  sup := rfl
  queue := List.filter_sublist
  admissions := by simp only [admitBay, State.sched_setBay]; split <;> omega
  bay d := by
    by_cases hd : d = b
    · subst hd
      exact .inr ⟨h, c, hc, by simp⟩
    · exact .inl (by simp [hd])
  rest := rfl

/-- Everything a walk can do: admit bays that are QUEUED. -/
theorem walk_onlyAdmits (q : List BayIx) (s : State) : OnlyAdmits s (walk q s) := by
  induction q generalizing s with
  | nil => exact OnlyAdmits.refl s
  | cons b rest ih =>
    unfold walk
    split
    · exact ih s
    · split
      · exact OnlyAdmits.refl s
      · split
        · exact ih s
        · rename_i hc
          split
          · exact ih s
          · rename_i hq
            split
            · exact OnlyAdmits.refl s
            · split
              · exact OnlyAdmits.refl s
              · exact (admitBay_onlyAdmits (not_not.mp hq) hc).trans (ih _)

theorem attempt_onlyAdmits (s : State) : OnlyAdmits s (attempt s) := walk_onlyAdmits _ s

@[simp] theorem attempt_queue_nil {s : State} (h : s.sched.queue = []) : attempt s = s := by
  simp [attempt, h, walk]

theorem walk_overdraw {s : State} (h : s.acct.overdraw = true) (q : List BayIx) : walk q s = s := by
  induction q with
  | nil => rfl
  | cons b rest ih => simp [walk, h, ih]

theorem attempt_overdraw {s : State} (h : s.acct.overdraw = true) : attempt s = s := walk_overdraw h _

theorem walk_deficit {s : State} (h : s.headroom < 0) (q : List BayIx) : walk q s = s := by
  induction q with
  | nil => rfl
  | cons b rest ih =>
    unfold walk
    repeat' split
    all_goals first | exact ih | rfl | (exfalso; omega)

theorem attempt_deficit {s : State} (h : s.headroom < 0) : attempt s = s := walk_deficit h _

/-- A walk passes over the held bays that stand before the rest (R59). -/
theorem walk_held {s : State} {ahead : List BayIx} (h : ∀ c ∈ ahead, s.zoneHeld c = true) (rest : List BayIx) :
    walk (ahead ++ rest) s = walk rest s := by
  induction ahead with
  | nil => rfl
  | cons c l ih =>
    rw [List.cons_append, walk, if_pos (h c (by simp)), ih fun d hd => h d (by simp [hd])]

/-- A bay that is not QUEUED comes through an attempt unchanged. -/
theorem attempt_bay {s : State} {b : BayIx} (h : (s.bay b).state ≠ .queued) : (attempt s).bay b = s.bay b := by
  rcases (attempt_onlyAdmits s).bay b with hb | ⟨hq, _, _, _⟩
  · exact hb
  · exact absurd hq h

/-- An attempt leaves everything but the bays and the queue alone (R61). -/
theorem attempt_loop_rst (s : State) : (attempt s).loop = s.loop ∧ (attempt s).rst = s.rst := by
  rw [(attempt_onlyAdmits s).rest]
  exact ⟨rfl, rfl⟩

/-- An event leaves the Loop Engine and the reset triggers as its changes do. -/
theorem event_loop_rst (f : Work → Work) (s : State) :
    (event f s).loop = (f (Work.start s)).st.loop ∧ (event f s).rst = (f (Work.start s)).st.rst := by
  unfold event Work.finish
  split
  · exact ⟨(attempt_loop_rst _).1, (attempt_loop_rst _).2⟩
  · exact ⟨rfl, rfl⟩

end Sys2Proof.Machine
end

