-- ==== Sys2Proof/Laws/Wrappers.lean ====
section
/-! SUPPORT. What the wrappers of the meanings answer: a live part, a bay line, a fan line, and the hand-over of a
request cell. -/

namespace Sys2Proof.Machine

open Sys2Proof.Safety

theorem live_next {s : State} (h : s.inReset = false) (k : State → State) : live s k = .next (k s) := by
  simp [live, h]

theorem live_held {s : State} (h : s.inReset = true) (k : State → State) : live s k = .next s := by
  simp [live, h]

theorem onBay_next {s : State} {b : BayIx} (h : BayLive s b) (k : BayIx → State → State) :
    onBay b.val s k = .next (k b s) := by
  simp [onBay, h.1, h.2]

theorem onBay_absent {s : State} {b : BayIx} (h : s.populated b = false) (k : BayIx → State → State) :
    onBay b.val s k = .next s := by
  simp [onBay, h]

theorem onBay_held {s : State} {b : BayIx} (h : s.inReset = true) (k : BayIx → State → State) :
    onBay b.val s k = .next s := by
  simp [onBay, h]

theorem onBay_noLine {s : State} {n : Nat} (h : 24 ≤ n) (k : BayIx → State → State) :
    onBay n s k = .fault .noSuchLine := by
  simp [onBay, Nat.not_lt.mpr h]

theorem onFan_next {s : State} {f : FanIx} (h : s.inReset = false) (k : FanIx → State → State) :
    onFan f.val s k = .next (k f s) := by
  simp [onFan, h]

theorem onFan_held {s : State} {f : FanIx} (h : s.inReset = true) (k : FanIx → State → State) :
    onFan f.val s k = .next s := by
  simp [onFan, h]

theorem onFan_noLine {s : State} {n : Nat} (h : 8 ≤ n) (k : FanIx → State → State) :
    onFan n s k = .fault .noSuchLine := by
  simp [onFan, Nat.not_lt.mpr h]

/-- A position is not the broadcast destination. -/
theorem position_ne_broadcast {s : State} {dst : Byte} {p : Fin 8} (hp : s.loop.position = some p)
    (h : s.loop.position.map (·.val) = some dst.toNat) : dst ≠ 15#8 ∧ dst.toNat = p.val := by
  have hv : p.val = dst.toNat := by simpa [hp] using h
  refine ⟨fun e => ?_, hv.symm⟩
  have := p.isLt
  rw [hv, e] at this
  exact absurd this (by decide)

/-- A request that the part takes is executed, and its reply enters the reply hold unless it is silent. -/
theorem deliver_takes {s : State} {dst : Byte} (h : Takes s dst) (tag kind : Byte) (acts : Bool)
    (run : State → Answer) :
    deliver dst tag kind acts run s =
      if (run s).silent = true then (run s).st else answered (run s).st kind tag (run s).result (run s).data := by
  obtain ⟨_, hpos, hr⟩ := h
  cases hp : s.loop.position with
  | none => simp [hp] at hpos
  | some p =>
    obtain ⟨hb, hv⟩ := position_ne_broadcast hp hpos
    simp [deliver, hp, hb, hv, hr, answered]

/-- An unplaced part takes no request. -/
theorem deliver_unplaced {s : State} (h : s.loop.position = none) (dst tag kind : Byte) (acts : Bool)
    (run : State → Answer) : deliver dst tag kind acts run s = s := by
  simp [deliver, h]

/-- A broadcast is executed by the kinds that act on it, and never answered. -/
theorem deliver_broadcast {s : State} (h : s.loop.position.isSome = true) (tag kind : Byte) (acts : Bool)
    (run : State → Answer) : deliver 15#8 tag kind acts run s = if acts then (run s).st else s := by
  cases hp : s.loop.position with
  | none => simp [hp] at h
  | some p => simp [deliver, hp]

/-- A request to a part whose reply hold holds a reply sets the reply-overrun flag and does nothing else. -/
theorem deliver_overrun {s : State} {dst : Byte} (hpos : s.loop.position.map (·.val) = some dst.toNat)
    (hr : s.loop.reply.isSome = true) (tag kind : Byte) (acts : Bool) (run : State → Answer) :
    deliver dst tag kind acts run s = { s with loop := { s.loop with overrun := true } } := by
  cases hp : s.loop.position with
  | none => simp [hp] at hpos
  | some p =>
    obtain ⟨hb, hv⟩ := position_ne_broadcast hp hpos
    simp [deliver, hp, hb, hv, hr]

/-- A request to another destination is not noticed. -/
theorem deliver_other {s : State} {dst : Byte} (hb : dst ≠ 15#8)
    (hpos : s.loop.position.map (·.val) ≠ some dst.toNat) (tag kind : Byte) (acts : Bool) (run : State → Answer) :
    deliver dst tag kind acts run s = s := by
  cases hp : s.loop.position with
  | none => simp [deliver, hp]
  | some p =>
    have : dst.toNat ≠ p.val := fun e => hpos (by simp [hp, e])
    simp [deliver, hp, hb, this]

end Sys2Proof.Machine
end

