-- ==== Sys2Proof/Laws/Kept.lean ====
section
/-! SUPPORT. What a property needs to be kept by the shared operations: the walk, an event, a sweep over the bays, the
wrappers of the meanings, what a tick takes first, and a step. -/

namespace Sys2Proof.Machine

/-- A property kept by every admission the walk's checks allow is kept by the walk. -/
theorem walk_kept {P : State → Prop}
    (h : ∀ (s : State) (b : BayIx) (c : DriveClass), P s → s.zoneHeld b = false → s.acct.overdraw = false →
      s.classOf b = some c → (s.bay b).state = .queued → (c.staged = true → s.sched.admissions < s.sched.pace.limit) →
      (c.surge : Int) ≤ s.headroom → P (admitBay b c s))
    (q : List BayIx) : ∀ s : State, P s → P (walk q s) := by
  induction q with
  | nil => exact fun _ hs => hs
  | cons b rest ih =>
    intro s hs
    unfold walk
    split
    · exact ih s hs
    · rename_i hz
      split
      · exact hs
      · rename_i ho
        split
        · exact ih s hs
        · rename_i c hc
          split
          · exact ih s hs
          · rename_i hq
            split
            · exact hs
            · rename_i hl
              split
              · exact hs
              · refine ih _ (h s b c hs (by simpa using hz) (by simpa using ho) hc (by simpa using hq) ?_ (by omega))
                intro hst
                simpa [hst] using hl

/-- The same for an admission attempt. -/
theorem attempt_kept {P : State → Prop}
    (h : ∀ (s : State) (b : BayIx) (c : DriveClass), P s → s.zoneHeld b = false → s.acct.overdraw = false →
      s.classOf b = some c → (s.bay b).state = .queued → (c.staged = true → s.sched.admissions < s.sched.pace.limit) →
      (c.surge : Int) ≤ s.headroom → P (admitBay b c s))
    {s : State} (hs : P s) : P (attempt s) := walk_kept h _ s hs

/-- A property of the changes of an event, their group taken into the queue, is a property of the event if an attempt
keeps it. -/
theorem event_kept {P : State → Prop} (ha : ∀ s, P s → P (attempt s)) {f : Work → Work} {s : State}
    (hf : P (f (Work.start s)).entered) : P (event f s) := by
  unfold event Work.finish
  split
  · exact ha _ hf
  · exact hf

/-- A sweep over the bays keeps what each of its calls keeps. -/
theorem forBays_kept {P : State → Prop} {due : State → BayIx → Bool} {k : BayIx → State → State}
    (h : ∀ (s : State) (b : BayIx), P s → s.populated b = true → due s b = true → P (k b s)) {s : State} (hs : P s) :
    P (forBays due k s) := by
  suffices H : ∀ (l : List BayIx) (s : State), P s →
      P (l.foldl (fun s b => if s.populated b && due s b then k b s else s) s) from H _ _ hs
  intro l
  induction l with
  | nil => exact fun _ hs => hs
  | cons b rest ih =>
    intro s hs
    refine ih _ ?_
    dsimp only
    split
    · rename_i hb
      rw [Bool.and_eq_true] at hb
      exact h s b hs hb.1 hb.2
    · exact hs

/-- A command of the part as a whole keeps what its change keeps. -/
theorem live_kept {P : State → Prop} {k : State → State} (h : ∀ s, P s → P (k s)) {s t : State} (hs : P s)
    (ht : live s k = .next t) : P t := by
  unfold live at ht
  split at ht <;> cases ht
  · exact hs
  · exact h s hs

/-- An event of a bay line keeps what its change keeps. -/
theorem onBay_kept {P : State → Prop} {k : BayIx → State → State}
    (h : ∀ (b : BayIx) (s : State), P s → s.populated b = true → P (k b s)) {n : Nat} {s t : State} (hs : P s)
    (ht : onBay n s k = .next t) : P t := by
  unfold onBay at ht
  split at ht
  · split at ht <;> cases ht
    · exact hs
    · rename_i hb
      exact h _ s hs (by simp at hb; exact hb.2)
  · cases ht

/-- An event of a fan line keeps what its change keeps. -/
theorem onFan_kept {P : State → Prop} {k : FanIx → State → State} (h : ∀ (f : FanIx) (s : State), P s → P (k f s))
    {n : Nat} {s t : State} (hs : P s) (ht : onFan n s k = .next t) : P t := by
  unfold onFan at ht
  split at ht
  · split at ht <;> cases ht
    · exact hs
    · exact h _ s hs
  · cases ht

/-- The hand-over of a request keeps what its execution keeps, if the overrun flag and the reply hold do not matter. -/
theorem deliver_kept {P : State → Prop}
    (ho : ∀ s, P s → P { s with loop := { s.loop with overrun := true } })
    (hr : ∀ (s : State) (r : Reply), P s → P { s with loop := { s.loop with reply := some r, replyPlaced := false } })
    {run : State → Answer} (h : ∀ s, P s → P (run s).st) {dst tag kind : Byte} {acts : Bool} {s : State} (hs : P s) :
    P (deliver dst tag kind acts run s) := by
  unfold deliver
  split
  · exact hs
  · split
    · split
      · exact h s hs
      · exact hs
    · split
      · split
        · exact ho s hs
        · dsimp only
          split
          · exact h s hs
          · exact hr _ _ (h s hs)
      · exact hs

/-- What is left of the tick before keeps what each of its events keeps. -/
theorem completeTick_kept {P : State → Prop}
    (frame : ∀ s, P s → P (takeFrameEnd s))
    (bay : ∀ k ∈ [takePresenceActive, takePresenceLoss, takePowerGoodSeen, takePowerGoodLost, takeSwitchFault,
      takeStretch, takeEdge, takeSurgeDeadline, takePgDeadline, takeResetHold, takeStale],
      ∀ (s : State) (b : BayIx), P s → s.populated b = true → P (k b s))
    (part : ∀ k ∈ [takeExpiries, takeBoundary, takeCooling, takeConversion, takeLoopTimer, resolveLights],
      ∀ s : State, P s → P (k s))
    {s : State} (hs : P s) : P (completeTick s) := by
  have each : ∀ (due : State → BayIx → Bool) (k : BayIx → State → State),
      k ∈ [takePresenceActive, takePresenceLoss, takePowerGoodSeen, takePowerGoodLost, takeSwitchFault, takeStretch,
        takeEdge, takeSurgeDeadline, takePgDeadline, takeResetHold, takeStale] →
      ∀ s, P s → P (forBays due k s) := fun _ k hk _ hs =>
    forBays_kept (fun s b hs hb _ => bay k hk s b hs hb) hs
  have whole : ∀ (c : State → Bool) (k : State → State),
      k ∈ [takeExpiries, takeBoundary, takeCooling, takeConversion, takeLoopTimer, resolveLights] →
      ∀ s, P s → P (if c s = true then k s else s) := by
    intro c k hk s hs
    split
    · exact part k hk s hs
    · exact hs
  unfold completeTick
  refine whole (fun s => s.ind.resolutionDue) resolveLights (by simp) _ ?_
  refine whole loopTimerDue takeLoopTimer (by simp) _ ?_
  refine each _ takeStale (by simp) _ ?_
  refine whole (fun s => s.scan.slotDue) takeConversion (by simp) _ ?_
  refine whole coolingDue takeCooling (by simp) _ ?_
  refine whole boundaryDue takeBoundary (by simp) _ ?_
  refine each _ takeResetHold (by simp) _ ?_
  refine each _ takePgDeadline (by simp) _ ?_
  refine each _ takeSurgeDeadline (by simp) _ ?_
  refine part takeExpiries (by simp) _ ?_
  refine each _ takeEdge (by simp) _ ?_
  refine each _ takeStretch (by simp) _ ?_
  refine each _ takeSwitchFault (by simp) _ ?_
  refine each _ takePowerGoodLost (by simp) _ ?_
  refine each _ takePowerGoodSeen (by simp) _ ?_
  refine each _ takePresenceLoss (by simp) _ ?_
  refine each _ takePresenceActive (by simp) _ ?_
  exact frame s hs

/-- A property that does not look at the queue of commands and that every command keeps is kept by every step. -/
theorem step_kept {P : State → Prop} (hq : ∀ (s : State) (l : List Instr), P s → P { s with pending := l })
    (h : ∀ (c : Instr) (s t : State), P s → exec c s = .next t → P t) {s t : State} (hs : P s)
    (ht : step s = .next t) : P t := by
  unfold step at ht
  split at ht
  · cases ht
    exact hs
  · exact h _ _ _ (hq s _ hs) ht

end Sys2Proof.Machine
end

