-- ==== Sys2Proof/Laws/Loop.lean ====
section
/-! SUPPORT. What the check register of the loop engine does with one byte, and what the requests of a
frame leave alone. -/

namespace Sys2Proof.Machine

/-- One shift with a byte laid over the register: its top bit joins the test, and the rest moves up. -/
theorem crcShift_xor_shifted (c x : BitVec 16) :
    crcShift (c ^^^ x) =
      (if (c.getLsbD 15 ^^ x.getLsbD 15) = true then (c <<< 1) ^^^ 0x1021#16 else c <<< 1) ^^^ (x <<< 1) := by
  unfold crcShift
  rw [BitVec.getLsbD_xor, BitVec.shiftLeft_xor_distrib]
  split
  · rw [BitVec.xor_assoc, BitVec.xor_comm (x <<< 1), ← BitVec.xor_assoc]
  · rfl

/-- One step at the bit that stands k places below the top of the byte. -/
theorem crcShift_at (c : BitVec 16) (x : Byte) (k : Nat) (h : k < 8) :
    crcShift (c ^^^ (x.setWidth 16 <<< (8 + k))) =
      (if (c.getLsbD 15 ^^ x.getLsbD (7 - k)) = true then (c <<< 1) ^^^ 0x1021#16 else c <<< 1) ^^^
        (x.setWidth 16 <<< (8 + (k + 1))) := by
  have b : (x.setWidth 16 <<< (8 + k)).getLsbD 15 = x.getLsbD (7 - k) := by
    rw [BitVec.getLsbD_shiftLeft, BitVec.getLsbD_setWidth]
    have : 15 - (8 + k) = 7 - k := by omega
    rw [this]
    have h1 : 7 - k < 16 := by omega
    have h2 : 8 + k ≤ 15 := by omega
    simp [h1, h2]
  rw [crcShift_xor_shifted, b, ← BitVec.shiftLeft_add, Nat.add_assoc]

/-- A byte enters the check register bit by bit, most significant first (R153). -/
theorem crcByte_eq_fold (c : BitVec 16) (x : Byte) :
    crcByte c x = (List.range 8).foldl
      (fun (c : BitVec 16) i => if (c.getLsbD 15 ^^ x.getLsbD (7 - i)) = true then (c <<< 1) ^^^ 0x1021#16 else c <<< 1)
      c := by
  have z : x.setWidth 16 <<< (8 + (7 + 1)) = 0#16 := BitVec.shiftLeft_eq_zero (by omega)
  have e : x.setWidth 16 <<< 8 = x.setWidth 16 <<< (8 + 0) := rfl
  unfold crcByte
  rw [e, crcShift_at _ _ 0 (by omega), crcShift_at _ _ 1 (by omega), crcShift_at _ _ 2 (by omega),
    crcShift_at _ _ 3 (by omega), crcShift_at _ _ 4 (by omega), crcShift_at _ _ 5 (by omega),
    crcShift_at _ _ 6 (by omega), crcShift_at _ _ 7 (by omega), z, BitVec.xor_zero]
  rfl

/-- The requests of a frame leave the Loop Engine and the reset triggers alone (R161). -/
theorem applyRequests_loop_rst (s : State) :
    (applyRequests s).loop = s.loop ∧ (applyRequests s).rst = s.rst := by
  have one : ∀ (w : Work) (q : BayIx × Byte),
      (applyRequest w q).st.loop = w.st.loop ∧ (applyRequest w q).st.rst = w.st.rst := by
    intro w q
    unfold applyRequest
    simp only []
    repeat' split
    · exact ⟨rfl, rfl⟩
    · exact ⟨(evaluate_loop_rst _ _).1, (evaluate_loop_rst _ _).2⟩
    · exact ⟨rfl, rfl⟩
  have all : ∀ (l : List (BayIx × Byte)) (w : Work),
      (l.foldl applyRequest w).st.loop = w.st.loop ∧ (l.foldl applyRequest w).st.rst = w.st.rst := by
    intro l
    induction l with
    | nil => exact fun w => ⟨rfl, rfl⟩
    | cons q l ih => exact fun w => ⟨(ih _).1.trans (one w q).1, (ih _).2.trans (one w q).2⟩
  have e := event_loop_rst (fun w => s.loop.frame.requests.foldl applyRequest w) s
  exact ⟨e.1.trans (all _ _).1, e.2.trans (all _ _).2⟩

end Sys2Proof.Machine
end

