-- ==== Sys2Proof/Tests/Slice0.lean ====
section
/-! SUPPORT. The model's own tests: the WellFormed smoke tests, single steps from the spec's worked examples, and for
every statement with hypotheses a state and operands that meet them. -/

namespace Sys2Proof.Tests

set_option Elab.async false

open Sys2Proof.Machine Sys2Proof.Safety

/-! ### The bench -/

/-- A part placed at position 0 right after its reset, with the slot map of that position. -/
def bench : State := resolveMap { State.reset with loop := { State.reset.loop with position := some 0 } }

/-- The next state of a command, or the state itself where it stops. -/
def after (c : Instr) (s : State) : State :=
  match exec c s with
  | .next t => t
  | .fault _ => s
  | .refused _ => s

/-- A command answers a next state. -/
def completes (c : Instr) (s : State) : Bool :=
  match exec c s with
  | .next _ => true
  | .fault _ => false
  | .refused _ => false

/-- Bay 0 shows these inputs at the latest scan. -/
def seeing (x : BayInputs) (s : State) : State :=
  { s with io := { s.io with firstScan := false, pins := { s.io.pins with bays := s.io.pins.bays.set 0 x } } }

/-- Inputs of a bay with a drive in it. -/
def driveIn : BayInputs := ⟨true, 0#4, true, false, false⟩

/-- The bench at an instant. -/
def benchAt (now : Nat) : State := { bench with time := { now := now } }

/-- A bay record in a state, of class 0, with presence. -/
def bayIn (st : BayState) : Bay := { defaultBay with state := st, cls := .cls 0, presence := true }

/-- A spin-up with its deadlines at 3000 and 1500. -/
def spinning (seen taken : Bool) : Spin := ⟨3000, 1500, seen, taken, false⟩

/-- A bay in SURGE whose power-good and switch-fault inputs are to be judged. -/
def surging (seen taken : Bool) : Bay :=
  { bayIn .surge with spin := some (spinning seen taken), lookPg := true, lookSf := true }

/-- A bay in RUN whose power-good and switch-fault inputs are to be judged. -/
def running : Bay := { bayIn .run with lookPg := true, lookSf := true }

/-- The bench with bay 0 as given. -/
def benchWith (x : Bay) : State := bench.setBay 0 x

/-- The bench with these bays QUEUED in this order, class 0. -/
def queued (q : List BayIx) : State :=
  q.foldl (fun s b => s.setBay b (bayIn .queued)) { bench with sched := { bench.sched with queue := q } }

/-- The bench with the receiver inside a frame of S slots after n data bytes. -/
def inFrame (slots n : Nat) : State :=
  { bench with
    loop :=
      { bench.loop with
        receiver := .inFrame
        frame := { emptyFrame with count := n, slots := b8 slots, map := bench.loop.slotMap } } }

/-- The bench with a frame end to take. -/
def ended (good : Bool) (f : Frame) : State :=
  { bench with loop := { bench.loop with frameEnd := some good, frame := f } }

/-- A command waits in front. -/
def waiting (c : Instr) (s : State) : State := { s with pending := [c] }

/-! ### WellFormed smoke tests -/

theorem test_wellFormed_refuses_bay_line : (Instr.presenceActive 24).wellFormed = false := by decide
theorem test_wellFormed_refuses_fan_line : (Instr.tachPulse 8).wellFormed = false := by decide
theorem test_wellFormed_refuses_hold_release_code :
    (Instr.indicatorHold 0#8 0#8 0#8 0#8 255#8).wellFormed = false := by decide
theorem test_wellFormed_refuses_long_entry :
    (Instr.tablePut 0#8 0#8 0#8 (List.replicate 12 0#8)).wellFormed = false := by decide
theorem test_wellFormed_accepts_last_lines :
    (Instr.presenceActive 23).wellFormed = true ∧ (Instr.tachPulse 7).wellFormed = true := by decide

/-! ### Bays (chapter 1) -/

theorem test_presenceActive_starts_debounce :
    let t := after (.presenceActive 0) (seeing driveIn bench)
    (t.bay 0).state = .settling ∧ (t.bay 0).debounce = some 250 := by decide +kernel

/-- R36, R188: the pins of before a full reset are not its first scan. -/
theorem test_presenceActive_waits_for_first_scan :
    let s := seeing driveIn bench
    after (.presenceActive 0) { s with io := { s.io with firstScan := true } } =
      { s with io := { s.io with firstScan := true } } := by decide +kernel

theorem test_presenceLoss_in_run_drains :
    let t := after (.presenceLoss 0) (benchWith running)
    (t.bay 0).state = .drain ∧ (t.bay 0).drain = 500 ∧ (t.bay 0).removed = true ∧
      (t.bay 0).attn = ⟨true, true, false, false, false⟩ := by decide +kernel

/-- 1.17, tick 1250: settled, queued and admitted in one event. -/
theorem test_debounceExpiry_admits :
    let x := { bayIn .settling with cls := .unresolved, debounce := some 0 }
    let t := after (.debounceExpiry 5) (((seeing driveIn (benchAt 1250)).setBay 5 x))
    (t.bay 5).state = .surge ∧ (t.bay 5).spin = some ⟨4250, 2750, false, false, false⟩ ∧ t.draw 5 = 210 ∧
      t.sched.queue = [] := by decide +kernel

/-- 1.17, tick 4250: RUN at the surge deadline, with no reset hold. -/
theorem test_surgeDeadline_runs :
    let t := after (.surgeDeadline 0) ((benchAt 3000).setBay 0 (surging true false))
    (t.bay 0).state = .run ∧ (t.bay 0).resetHold = none ∧ t.draw 0 = 75 := by decide +kernel

theorem test_powerGoodSeen_is_noted :
    ((after (.powerGoodSeen 0) (seeing driveIn (benchWith (surging false false)))).bay 0).spin =
      some (spinning true false) := by decide +kernel

theorem test_powerGoodLost_faults :
    ((after (.powerGoodLost 0) (benchWith running)).bay 0).cause = .powerLost := by decide +kernel

/-- 1.18, tick 0. -/
theorem test_switchFault_faults :
    let t := after (.switchFault 0) (seeing { driveIn with switchFault := true } (benchWith (surging true false)))
    (t.bay 0).state = .fault ∧ (t.bay 0).cause = .overcurrent ∧ (t.bay 0).drain = 500 ∧
      (t.bay 0).attn = ⟨false, true, true, false, false⟩ := by decide +kernel

/-- 1.18, tick 500: the retry is counted and the bay admitted again in the same event. -/
theorem test_drainExpiry_retries :
    let x := { bayIn .fault with cls := .cls 1, carrier := 1#4, cause := .overcurrent, drainDue := true }
    let t := after (.drainExpiry 0) ((seeing { driveIn with carrier := 1#4 } (benchAt 500)).setBay 0 x)
    (t.bay 0).state = .surge ∧ (t.bay 0).retries = 1 ∧ (t.bay 0).spin = some ⟨3000, 1700, false, false, false⟩ := by
  decide +kernel

theorem test_powerGoodDeadline_faults :
    ((after (.powerGoodDeadline 0) ((benchAt 1500).setBay 0 (surging false false))).bay 0).cause = .noPowerGood := by
  decide +kernel

theorem test_resetHoldExpiry_releases :
    let t := after (.resetHoldExpiry 0) (benchWith { running with resetHold := some 0 })
    (t.bay 0).resetHold = none ∧ (t.bay 0).attn.resetDone = true := by decide +kernel

/-! ### Staging and the account (chapters 2 and 3) -/

/-- 2.6, tick 4300: two of five are admitted and the walk stops on the limit. -/
theorem test_attempt_stops_at_limit :
    let t := attempt (queued [0, 1, 2, 3, 8])
    t.sched.queue = [2, 3, 8] ∧ t.sched.admissions = 2 ∧ t.committed = 420 := by decide +kernel

theorem test_staggerBoundary_advances :
    let t := after .staggerBoundary (benchAt 1000)
    t.sched.frameNumber = 1 ∧ t.sched.nextBoundary = 2000 := by decide +kernel

/-- R49: tail entries in ascending number, head entries each pushed to the head. -/
theorem test_groupedQueue_order : groupedQueue [7, 9] [3, 1] [9, 2] = [9, 2, 7, 1, 3] := by decide +kernel

/-- 3.10, results 6, 7 and 12. -/
theorem test_judge_overdraw :
    let a : PowerAccount := { bench.acct with overStreak := 2 }
    let b := a.judge 3810
    let c := (b.judge 3800).judge 3760
    b.overdraw = true ∧ b.overStreak = 3 ∧ c.overdraw = true ∧ (c.judge 3600).overdraw = false := by decide +kernel

/-! ### Sensing (chapter 4) -/

/-- 5.12: channel 1, raw 1530, corrected 1524, value 75. -/
theorem test_convert_example :
    convert 1 ⟨true, some 1, true, 3, 300, -36⟩ 1530 = ⟨1530, 1524, 75, true⟩ := by decide +kernel

theorem test_conversionEnd_latches :
    let t := after .conversionEnd { bench with scan := { bench.scan with slotDue := true } }
    (t.channel 0).raw = 0 ∧ (t.channel 0).valid = false ∧ t.scan.pointer = some 1 := by decide +kernel

theorem test_temperatureStale_marks :
    let s := (benchWith running).setTemp 0 (some ⟨104, 10000, true, false⟩)
    let t := after (.temperatureStale 0) s
    t.temp 0 = some ⟨104, 10000, false, true⟩ ∧ (t.bay 0).attn.temperature = true := by decide +kernel

/-- R95: at the tick its age reaches the limit a record is not valid, its turning stale still to be taken. -/
theorem test_tempValid_ends_at_limit :
    ((benchWith running).setTemp 0 (some ⟨104, 9999, true, false⟩)).tempValid 0 = true ∧
      ((benchWith running).setTemp 0 (some ⟨104, 10000, true, false⟩)).tempValid 0 = false := by decide +kernel

/-- 4.8, tick 33500: the clamped report cuts the bay's power. -/
theorem test_driveTemperature_cuts :
    let s := (benchWith running).setTemp 0 (some ⟨121, 2500, true, false⟩)
    let t := after (.driveTemperature 0#8 9#8 0#8 300#16 0x8000#16 0x8000#16) s
    (t.bay 0).cause = .overtemp ∧ t.temp 0 = none ∧ (t.loop.reply.map fun r => r.data.get 0) = some 1#8 := by
  decide +kernel

/-! ### Cooling (chapter 5) -/

theorem test_curve_example : curveValue bench 0 75 = 119 := by decide +kernel

/-- 5.13, update of tick 4000: the third low period fails the fan. -/
theorem test_coolingUpdate_fails_fan :
    let s := { bench with time := { now := 4000 } }
    let s := s.setFan 1 { s.fan 1 with low := 2, checked := true, applied := 100 }
    let t := after .coolingUpdate s
    (t.fan 1).state = .failed ∧ (t.fan 1).applied = 255 ∧ (t.zone 1).hold = true ∧ t.cool.periodEnd = 5000 := by
  decide +kernel

theorem test_tachPulse_counts : ((after (.tachPulse 7) bench).fan 7).tach = 1 := by decide +kernel

/-! ### Indicators (chapter 6) and the tick -/

/-- 6.11: BREATHE at epoch 300 and brightness 12. -/
theorem test_breathe_example : levelOf 12 300 .none .breathe = 3 := by decide +kernel

theorem test_breathe_ends :
    breatheLevel 937 = 14 ∧ breatheLevel 938 = 15 ∧ breatheLevel 1000 = 15 ∧ breatheLevel 1063 = 14 := by
  decide +kernel

theorem test_driveActivityEdge_starts_stretch :
    let s := bench.setBayLights 0 { bench.bayLights 0 with edgeDue := true }
    (after (.driveActivityEdge 0) s).bayLights 0 = { defaultBayLights with phase := .dark, timer := 60 } := by
  decide +kernel

theorem test_activityStretchExpiry_lights :
    let s := bench.setBayLights 0 { bench.bayLights 0 with phase := .dark, timer := 0 }
    ((after (.activityStretchExpiry 0) s).bayLights 0).phase = .lit := by decide +kernel

theorem test_timebaseTick_drives_outputs :
    let t := after (.timebaseTick bench.io.pins .afterEvents) (seeing driveIn (benchWith (surging false false)))
    t.time.now = 1 ∧ t.io.out.powerEnable.get 0 = true ∧ t.io.out.driveReset.get 0 = true := by decide +kernel

/-! ### The loop (chapter 7) -/

/-- CRC-16 of the ASCII digits 1 to 9 with all ones at the start: 29B1 hex, the known check of R153's generator. -/
theorem test_crc_digits :
    ([0x31#8, 0x32#8, 0x33#8, 0x34#8, 0x35#8, 0x36#8, 0x37#8, 0x38#8, 0x39#8].foldl crcByte 0xFFFF#16) = 0x29B1#16 := by
  decide +kernel

theorem test_loopSymbol_starts_frame :
    let s := { bench with loop := { bench.loop with receiver := .between } }
    (after (.loopSymbol 0x1F1#9) s).loop.receiver = .inFrame := by decide +kernel

/-- 7.10: part C takes position 2, and its bay 4 slot 52. -/
theorem test_goodFrameEnd_places :
    let t := after .goodFrameEnd (ended true { emptyFrame with flags := 0x80#8, hop := 2#8 })
    t.loop.position = some 2 ∧ t.loop.slotMap.get 4 = some 52 := by decide +kernel

theorem test_badCheckFrameEnd_discards :
    (after .badCheckFrameEnd (ended false { emptyFrame with hop := 2#8 })).loop.frame = emptyFrame := by
  decide +kernel

theorem test_loopBreak_stops_clock : (after .loopBreak bench).loop.clock = false := by decide +kernel

theorem test_loopClockReturn_discards :
    (after .loopClockReturn (after .loopBreak bench)).loop.receiver = .discard := by decide +kernel

theorem test_loopTimerExpiry_loses_loop :
    (after .loopTimerExpiry { bench with loop := { bench.loop with timer := 0 } }).loop.lost = true := by
  decide +kernel

/-! ### Messages (chapter 8) -/

/-- The result code and data bytes of the reply a command leaves. -/
def replyOf (c : Instr) (s : State) : Option (Byte × List Byte) :=
  (after c s).loop.reply.map fun r => (r.result.code, r.data.toList)

theorem test_identify_answers :
    replyOf (.identify 0#8 1#8) bench =
      some (0#8, [0x57#8, 0x10#8, 0x24#8, 0x08#8, 3#8, 0#8, 1#8, 24#8, 1#8, 0#8, 0#8, 0#8]) := by decide +kernel

theorem test_bayRead_answers :
    replyOf (.bayRead 0#8 1#8 0#8) bench = some (0#8, [0#8, 255#8, 0#8, 0#8, 3#8, 0#8, 0#8, 0#8, 0#8, 0#8, 0#8, 0#8]) := by
  decide +kernel

theorem test_bayPowerOff_leaves_queue :
    (after (.bayPowerOff 0#8 1#8 0#8) (queued [0])).sched.queue = [] := by decide +kernel

theorem test_bayPowerExpedite_moves_to_head :
    let s := queued [1, 2, 0]
    (after (.bayPowerExpedite 0#8 1#8 0#8) { s with acct := { s.acct with overdraw := true } }).sched.queue =
      [0, 1, 2] := by decide +kernel

theorem test_bayPowerOn_in_empty : (replyOf (.bayPowerOn 0#8 1#8 0#8) bench).map (·.1) = some 4#8 := by decide +kernel

theorem test_bayPowerRelease_in_empty :
    (replyOf (.bayPowerRelease 0#8 1#8 0#8) bench).map (·.1) = some 4#8 := by decide +kernel

/-- R12, R13, R48: a RELEASE that finds no intent is an evaluation, decided by the loop intent ON-EXPEDITE. -/
theorem test_bayPowerRelease_expedites :
    let s := queued [1, 0]
    let s := s.setBay 0 { s.bay 0 with loopIntent := .onExpedite }
    (after (.bayPowerRelease 0#8 1#8 0#8) { s with acct := { s.acct with overdraw := true } }).sched.queue = [0, 1] := by
  decide +kernel

theorem test_bayPowerCycle_drains :
    let t := after (.bayPowerCycle 0#8 1#8 0#8) (benchWith running)
    (t.bay 0).state = .drain ∧ (t.bay 0).expedite = true := by decide +kernel

theorem test_bayPowerClear_leaves_fault :
    let s := seeing driveIn (benchWith { bayIn .fault with cause := .overtemp, retries := 1 })
    ((after (.bayPowerClear 0#8 1#8 0#8) s).bay 0).state = .surge := by decide +kernel

theorem test_bayReset_holds_ten :
    ((after (.bayReset 0#8 1#8 0#8) (benchWith running)).bay 0).resetHold = some 10 := by decide +kernel

theorem test_bayClass_busy_in_run :
    (replyOf (.bayClass 0#8 1#8 0#8 3#8) (benchWith running)).map (·.1) = some 8#8 := by decide +kernel

theorem test_attentionClear_clears :
    let s := benchWith { running with attn := ⟨true, true, true, false, false⟩ }
    ((after (.attentionClear 0#8 1#8 0#8 40#8 3#8) s).bay 0).attn = ⟨false, false, true, false, false⟩ := by
  decide +kernel

theorem test_attentionMask_sets_then_clears :
    ((after (.attentionMask 15#8 1#8 2#8 2#8 31#8 1#8) bench).bayCfg 2).mask = ⟨false, true, true, true, true⟩ := by
  decide +kernel

theorem test_indicatorHold_holds :
    ((after (.indicatorHold 0#8 1#8 5#8 5#8 1#8) bench).bayLights 5).hold = some 1 := by decide +kernel

theorem test_indicatorHoldRelease_releases :
    ((after (.indicatorHoldRelease 0#8 1#8 5#8 5#8) bench).bayLights 5).hold = none := by decide +kernel

theorem test_blinkSync_broadcast :
    let t := after (.blinkSync 15#8 1#8) { bench with ind := { bench.ind with epoch := 700 } }
    t.ind.epoch = 0 ∧ t.loop.reply = none := by decide +kernel

/-- 8.7, F1 and F3. -/
theorem test_tableWindow_opens :
    replyOf (.tableWindow 0#8 40#8 5#8 12#8 17#8) bench =
      some (0#8, [5#8, 12#8, 17#8, 12#8, 0#8, 0#8, 0#8, 0#8, 0#8, 0#8, 0#8, 0#8]) := by decide +kernel

theorem test_tablePut_stores_point :
    let s := { bench with window := some ⟨5, 12, 17, 12⟩ }
    let t := after (.tablePut 0#8 41#8 12#8 [0#8, 60#8, 80#8]) s
    t.cool.pendingCurves.get 12 = ⟨60, 80⟩ ∧ t.window = some ⟨5, 12, 17, 13⟩ := by decide +kernel

theorem test_tableGet_reads_class :
    replyOf (.tableGet 0#8 1#8 0#8) { bench with window := some ⟨2, 0, 7, 0⟩ } =
      some (0#8, [0#8, 1#8, 0#8, 210#8, 0#8, 75#8, 30#8, 150#8, 0#8, 65#8, 55#8, 65#8]) := by decide +kernel

theorem test_decodeClass_clamps :
    (decodeClass [0xFF#8, 0xFF#8, 0#8, 75#8, 0#8, 150#8, 0#8, 0x7F#8, 200#8, 65#8]) =
      some (⟨2000, 75, 1, 150, 0, true, 3, 127, 65⟩, true) := by decide +kernel

theorem test_curveActivate_copies :
    let s := { bench with cool := { bench.cool with pendingCurves := bench.cool.pendingCurves.set 12 ⟨0, 77⟩ } }
    (curvePoint (after (.curveActivate 0#8 1#8 2#8) s).cool.activeCurves 2 0) = ⟨0, 77⟩ := by decide +kernel

theorem test_powerRead_answers :
    replyOf (.powerRead 0#8 1#8 0#8) bench =
      some (0#8, [0x0E#8, 0x10#8, 0#8, 100#8, 0#8, 0#8, 0x01#8, 0xD8#8, 0x0B#8, 0xD4#8, 0#8, 0#8]) := by decide +kernel

theorem test_queueRead_answers :
    (replyOf (.queueRead 0#8 1#8 1#8) (queued [4, 2])).map (fun r => r.2.take 3) = some [2#8, 2#8, 255#8] := by
  decide +kernel

theorem test_fanRead_answers :
    (replyOf (.fanRead 0#8 1#8 7#8) bench).map (fun r => r.2.take 3) = some [2#8, 0#8, 0#8] := by decide +kernel

theorem test_sensorRead_refuses_nine : (replyOf (.sensorRead 0#8 1#8 9#8) bench).map (·.1) = some 3#8 := by
  decide +kernel

theorem test_zoneRead_answers : (replyOf (.zoneRead 0#8 1#8 3#8) bench).map (·.1) = some 0#8 := by decide +kernel

/-! ### Resets (chapters 8 and 9) -/

theorem test_partResetLoop_unplaces :
    let t := after (.partResetLoop 15#8 1#8) bench
    t.loop.position = none ∧ t.loop.slotMap.get 0 = none := by decide +kernel

theorem test_partResetTables_restores :
    let t := after (.partResetTables 0#8 1#8) { bench with acct := { bench.acct with ceiling := 10 } }
    t.acct.ceiling = 3600 ∧ t.loop.position = some 0 := by decide +kernel

/-- A QUEUED bay under ON-EXPEDITE keeps its place where its policy is restored (R50, R183). -/
theorem test_partResetTables_keeps_order :
    let q := queued [3, 0]
    let s := (q.setBay 0 { q.bay 0 with loopIntent := .onExpedite }).setBayCfg 0 { q.bayCfg 0 with policy := .manual }
    let t := after (.partResetTables 0#8 1#8) { s with acct := { s.acct with overdraw := true } }
    t.sched.queue = [3, 0] ∧ t.bay 0 = s.bay 0 ∧ (t.bayCfg 0).policy = .auto := by decide +kernel

theorem test_partResetFull_resets :
    let t := after (.partResetFull 0#8 1#8) bench
    t.loop.position = none ∧ t.loop.reply = none ∧ t.rst.cause = .message := by decide +kernel

theorem test_resetPin_holds : (after .resetPin bench).inReset = true := by decide +kernel

theorem test_powerOnReset_then_end :
    let t := after (.resetTriggerEnd .powerOn) (after .powerOnReset bench)
    t.inReset = false ∧ t.rst.cause = .powerOn ∧ t.loop.position = none := by decide +kernel

/-! ### Witnesses: each shows operands and a state that meet the hypotheses of the statement it is named for -/

/-- A step answers a next state. -/
def stepsOn (s : State) : Bool :=
  match step s with
  | .next _ => true
  | .fault _ => false
  | .refused _ => false

/-- The bench of a part with six populated bays. -/
def sixBays : State :=
  { bench with rst := { bench.rst with straps := { bench.rst.straps with bayCount := 6 } } }

/-- The bench with the loop clock stopped. -/
def clockless : State := { bench with loop := { bench.loop with clock := false } }

/-- The bench held by a reset trigger. -/
def heldBench : State := { bench with rst := { bench.rst with pin := true } }

/-- The bench with a reply in its hold. -/
def replying : State := answered bench 1#8 7#8 .ok []

/-- The bench with an open table window of one entry. -/
def windowAt (table i : Nat) : State := { bench with window := some ⟨table, i, i, i⟩ }

/-- The bench with a conversion slot ended. -/
def converted (k : Option Conversion) : State :=
  { bench with scan := { bench.scan with slotDue := true, converting := k } }

/-- The bench with fan 1 in a state, checked, with a tach count. -/
def fanBench (st : FanState) (tach low good : Nat) : State :=
  bench.setFan 1 { bench.fan 1 with state := st, tach := tach, low := low, good := good, checked := true }

theorem witness_StepRunsFrontCommand :
    (waiting (.identify 0#8 1#8) bench).pending = [.identify 0#8 1#8] ∧ bench.pending = [] := by decide +kernel

theorem witness_WellFormedCommandsComplete :
    (Instr.presenceActive 23).wellFormed = true ∧ bayLine (.presenceActive 24) = some 24 := by decide +kernel

theorem witness_HeldPartTakesNothing :
    heldBench.inReset = true ∧ needsRelease (.bayRead 0#8 1#8 0#8) = true ∧
      (Instr.bayRead 0#8 1#8 0#8).wellFormed = true ∧ heldBench.loop.clock = true := by decide +kernel

theorem witness_AbsentNumbersRefused :
    bayLine (.drainExpiry 6) = some 6 ∧ sixBays.populated 6 = false ∧ Takes sixBays 0#8 ∧
      sixBays.rst.straps.bayCount ≤ (6#8).toNat := by decide +kernel

theorem witness_EventsNotDueChangeNothing :
    presenceActiveDue bench 0 = false ∧ presenceLossDue bench 0 = false ∧ powerGoodSeenDue bench 0 = false ∧
      powerGoodLostDue bench 0 = false ∧ switchFaultDue bench 0 = false ∧ edgeDue bench 0 = false ∧
      debounceDue bench 0 = false ∧ drainDue bench 0 = false ∧ surgeDeadlineDue bench 0 = false ∧
      pgDeadlineDue bench 0 = false ∧ resetHoldDue bench 0 = false ∧ staleDue bench 0 = false ∧
      stretchDue bench 0 = false ∧ bench.time.now < bench.sched.nextBoundary ∧ bench.time.now < bench.cool.periodEnd ∧
      bench.scan.slotDue = false ∧ bench.loop.timer ≠ 0 ∧ bench.loop.frameEnd ≠ some true ∧
      bench.loop.frameEnd ≠ some false ∧ clockless.loop.clock = false ∧ bench.loop.clock = true := by decide +kernel

theorem witness_RequestsNotTaken :
    destination (.bayRead 0#8 1#8 0#8) = some 0#8 ∧ State.reset.inReset = false ∧ State.reset.loop.position = none ∧
      bench.loop.position.map (·.val) ≠ some (1#8).toNat ∧ actsWhenBroadcast (.bayRead 15#8 1#8 0#8) = false ∧
      replying.loop.position.map (·.val) = some (0#8).toNat ∧ replying.loop.reply.isSome = true := by decide +kernel

theorem witness_PresenceChangesComplete :
    BayLive bench 0 ∧ ((seeing driveIn bench).seen 0).presence = true ∧ (bench.bay 0).presence = false ∧
      bench.io.firstScan = true ∧ (seeing driveIn bench).io.firstScan = false ∧
      (bench.seen 0).presence = false ∧
      ∀ st ∈ [BayState.empty, .settling, .idle, .queued, .surge, .run, .drain, .fault],
        ((benchWith (bayIn st)).bay 0).state = st ∧ ((benchWith (bayIn st)).bay 0).presence = true := by decide +kernel

theorem witness_PowerGoodSeenCompletes :
    let s := seeing driveIn (benchWith (surging false true))
    BayLive s 0 ∧ (s.bay 0).state = .surge ∧ (s.bay 0).spin = some (spinning false true) ∧ (s.bay 0).cls = .cls 0 ∧
      (s.bay 0).lookPg = true ∧ (s.seen 0).powerGood = true := by decide +kernel

theorem witness_PowerFailureFaults :
    let s := seeing { driveIn with switchFault := true, powerGood := false } (benchWith running)
    let t := seeing { driveIn with powerGood := false } (benchWith (surging true false))
    BayLive s 0 ∧ (s.bay 0).state = .run ∧ (s.bay 0).lookSf = true ∧ (s.seen 0).switchFault = true ∧
      (t.bay 0).state = .surge ∧ (t.bay 0).spin = some (spinning true false) ∧ (t.bay 0).lookPg = true ∧
      (t.seen 0).powerGood = false := by decide +kernel

theorem witness_DebounceExpiryCompletes :
    let s := benchWith { bayIn .settling with debounce := some 0 }
    BayLive s 0 ∧ (s.bay 0).state = .settling ∧ (s.bay 0).debounce = some 0 ∧
      ∀ c : BayIx, c ≠ 0 → s.populated c = true → debounceDue s c = false ∧ drainDue s c = false := by decide +kernel

theorem witness_DrainExpiryCompletes :
    let s := benchWith { bayIn .drain with drainDue := true }
    let t := benchWith { bayIn .fault with drainDue := true, cause := .overcurrent }
    BayLive s 0 ∧ (s.bay 0).drainDue = true ∧ (s.bay 0).state = .drain ∧ (t.bay 0).state = .fault ∧
      (t.bay 0).cls = .cls 0 ∧ (t.bay 0).drainDue = true ∧
      ∀ c : BayIx, c ≠ 0 → s.populated c = true → debounceDue s c = false ∧ drainDue s c = false := by decide +kernel

theorem witness_DebounceExpiryCompletes_together :
    let s := (benchWith { bayIn .drain with drainDue := true }).setBay 3 { bayIn .settling with cls := .unresolved, debounce := some 0 }
    BayLive s 0 ∧ BaysMatch s ∧ 1 ≤ s.sup.debounceSetting ∧ drainDue s 0 = true ∧ debounceDue s 3 = true := by decide +kernel

theorem witness_DebounceExpiryCompletes_group :
    let x := { bayIn .settling with cls := .unresolved, debounce := some 0 }
    let s := (benchWith x).setBay 23 x
    BayLive s 0 ∧ (∀ c : BayIx, drainDue s c = false) ∧ debounceDue s 23 = true ∧
      (∀ c : BayIx, debounceDue s c = true →
        wants (s.bayCfg c).policy (s.bay c) = true ∧ (evaluated (s.bay c)).expedite = false ∧
          classAnswer s c (s.seen c).carrier = .cls 0) ∧
      ((s.driveClass 0).surge : Int) ≤ s.acct.ceiling - s.acct.guardBand := by decide +kernel

theorem witness_DeadlinesComplete :
    let s := (benchAt 3000).setBay 0 (surging true false)
    let t := benchWith { running with resetHold := some 0 }
    BayLive s 0 ∧ (s.bay 0).state = .surge ∧ (s.bay 0).spin = some (spinning true false) ∧ (s.bay 0).cls = .cls 0 ∧
      (spinning true false).surgeTaken = false ∧ (spinning true false).surgeDeadline ≤ s.time.now ∧
      (spinning true false).pgTaken = false ∧ (spinning true false).pgDeadline ≤ s.time.now ∧
      (t.bay 0).state = .run ∧ (t.bay 0).resetHold = some 0 := by decide +kernel

theorem witness_StaggerBoundaryCompletes :
    (benchAt 1000).inReset = false ∧ (benchAt 1000).sched.nextBoundary ≤ (benchAt 1000).time.now := by decide +kernel

theorem witness_AttemptAdmitsWithinBounds :
    let s := queued [3, 0]
    let t := { s with acct := { s.acct with overdraw := true } }
    let u := { s with acct := { s.acct with ceiling := 0 } }
    QueueMatches s ∧ (s.bay 3).state = .queued ∧ ((attempt s).bay 3).state = .surge ∧ QueueMatches t ∧
      t.acct.overdraw = true ∧ QueueMatches u ∧ u.headroom < 0 := by decide +kernel

theorem witness_AttemptInQueueOrder :
    let s := queued [3, 0]
    QueueMatches s ∧ BaysMatch s ∧ s.sched.queue = [3] ++ 0 :: [] ∧ ((attempt s).bay 0).state = .surge := by
  decide +kernel

/-- The bench with the zones of bays 0 to 5 held. -/
def zoneHeldBench (q : List BayIx) : State :=
  let s := queued q
  { s with cool := { s.cool with zones := s.cool.zones.set 0 { s.zone 0 with hold := true } } }

theorem witness_AttemptInQueueOrder_first :
    let s := zoneHeldBench [3, 8, 0]
    let full := { s with sched := { s.sched with admissions := 2 } }
    let all := zoneHeldBench [3, 0]
    QueueMatches s ∧ s.sched.queue = [3] ++ 8 :: [0] ∧ (s.zone (s.bayCfg 3).zone).hold = true ∧
      (s.zone (s.bayCfg 8).zone).hold = false ∧ (s.bay 8).cls = .cls 0 ∧ s.acct.overdraw = false ∧
      s.sched.admissions < s.sched.pace.limit ∧ ((s.driveClass 0).surge : Int) ≤ s.headroom ∧
      (full.driveClass 0).staged = true ∧ ¬ full.sched.admissions < full.sched.pace.limit ∧
      ∀ b ∈ all.sched.queue, (all.zone (all.bayCfg b).zone).hold = true := by decide +kernel

theorem witness_ConversionEndCompletes :
    let a := converted (some ⟨7, false⟩)
    let b := converted (some ⟨8, false⟩)
    a.inReset = false ∧ a.scan.slotDue = true ∧ a.scan.converting = some ⟨7, false⟩ ∧ b.scan.slotDue = true ∧
      b.scan.converting = some ⟨8, false⟩ ∧ (converted none).scan.converting = none ∧
      (converted (some ⟨0, true⟩)).scan.converting = some ⟨0, true⟩ ∧ a.scan.pointer = some 0 ∧
      (a.sensor 1).enabled = true := by decide +kernel

theorem witness_SupplyMonitorJudges :
    bench.acct.overStreak ≤ 3 ∧ bench.acct.clearStreak ≤ 3 ∧
      (bench.acct.ceiling : Int) + bench.acct.margin < 3801 ∧ (3800 : Int) ≤ bench.acct.ceiling + bench.acct.margin := by
  decide +kernel

theorem witness_TemperatureStaleCompletes :
    let s := (benchWith running).setTemp 0 (some ⟨104, 10000, true, false⟩)
    BayLive s 0 ∧ s.temp 0 = some ⟨104, 10000, true, false⟩ ∧ min 65535 (s.scan.staleness * 1000) ≤ 10000 := by
  decide +kernel

theorem witness_CoolingUpdateCompletes :
    (benchAt 1000).inReset = false ∧ (benchAt 1000).cool.periodEnd ≤ (benchAt 1000).time.now := by decide +kernel

theorem witness_FanSpeedCountedAndJudged :
    let low := fanBench .normal 49 2 0
    let good := fanBench .failed 50 0 2
    (low.fanCfg 1).enabled = true ∧ (low.fan 1).checked = true ∧ (low.fan 1).low ≤ 3 ∧ (low.fan 1).good ≤ 3 ∧
      ((coolingStages low).fan 1).rpm < (low.fanCfg 1).minRpm ∧ (good.fan 1).checked = true ∧
      (good.fanCfg 1).minRpm ≤ ((coolingStages good).fan 1).rpm ∧ (bench.fanCfg 7).enabled = false := by decide +kernel

theorem witness_ZoneDemandAtUpdate :
    let hot := (benchWith running).setTemp 0 (some ⟨130, 0, true, false⟩)
    let cool := (benchWith running).setTemp 0 (some ⟨129, 0, true, false⟩)
    ((coolingStages (fanBench .failed 0 0 0)).zone 1).fanFailed = true ∧
      ((coolingStages hot).zone 0).fanFailed = false ∧ hot.populated 0 = true ∧ (hot.bayCfg 0).zone = 0 ∧
      2 * ((hot.driveClass 0).critical : Int) ≤ 130 ∧ ((coolingStages bench).zone 0).temp = none ∧
      ((coolingStages cool).zone 0).temp = some 113 := by decide +kernel

theorem witness_CurveInterpolates :
    ascending bench.cool.activeCurves 0 = true ∧ (-80 : Int) ≤ (curvePoint bench.cool.activeCurves 0 0).temp ∧
      (curvePoint bench.cool.activeCurves 0 5).temp ≤ 255 ∧ (curvePoint bench.cool.activeCurves 0 1).temp ≤ 75 ∧
      (75 : Int) < (curvePoint bench.cool.activeCurves 0 2).temp := by decide +kernel

theorem witness_DutyMovesAtUpdate :
    let failed := fanBench .failed 0 0 0
    (bench.fanCfg 7).enabled = false ∧ (bench.fanCfg 0).enabled = true ∧
      ((coolingStages failed).fan 1).target = 255 ∧ ((coolingStages failed).zone 1).source = .fanFailed ∧
      (failed.fanCfg 1).minDuty ≤ 255 ∧ ((coolingStages bench).zone 0).source = .fallback ∧
      ((coolingStages bench).fan 0).target = (bench.fan 0).applied ∧
      ((coolingStages bench).fan 0).target < ((bench.setFan 0 { bench.fan 0 with applied := 255 }).fan 0).applied := by
  decide +kernel

theorem witness_ActivityAndBlinkSyncComplete :
    let s := bench.setBayLights 0 ⟨0, none, .lit, 0, true⟩
    BayLive s 0 ∧ (s.bayLights 0).edgeDue = true ∧ (s.bayLights 0).timer = 0 ∧ (s.bayLights 0).phase = .lit ∧
      s.loop.position.isSome = true ∧ Takes s 0#8 := by decide +kernel

theorem witness_PatternLevels :
    (938 < 1000 ∧ 1000 * 15 ≤ 16 * 938 ∧ 15 ≤ 15) ∧ 1000 * 14 ≤ 16 * 937 ∧ 16 * 937 < 1000 * (14 + 1) ∧
      1000 * 0 ≤ 16 * (1000 - 1000) ∧ 16 * (1062 - 1000) < 1000 * (0 + 1) ∧ 1999 < 2000 := by decide +kernel

theorem witness_TickCompletes : bench.inReset = false := by decide +kernel

theorem witness_ReceiverFollowsTable :
    let full := inFrame 2 40
    let s := { bench with loop := { bench.loop with receiver := .between } }
    full.inReset = false ∧ full.loop.clock = true ∧ full.loop.frameEnd = none ∧ full.loop.receiver = .inFrame ∧
      3 ≤ full.loop.frame.count ∧ full.loop.frame.count = 36 + 2 * full.loop.frame.slots.toNat ∧
      decodeSymbol 0x1F2#9 = .frameEnd ∧ decodeSymbol 0x1F1#9 = .frameStart ∧ decodeSymbol 0x1F4#9 = .frameAbort ∧
      decodeSymbol 0x1F8#9 = .idle ∧ decodeSymbol 0x0F1#9 = .data 0xF1#8 ∧ s.loop.receiver = .between ∧
      bench.loop.receiver = .discard := by decide +kernel

theorem witness_ReceiverFollowsTable_waiting :
    (ended true emptyFrame).inReset = false ∧ (ended true emptyFrame).loop.clock = true ∧
      (ended true emptyFrame).loop.frameEnd = some true ∧ (ended false emptyFrame).inReset = false ∧
      (ended false emptyFrame).loop.clock = true ∧ (ended false emptyFrame).loop.frameEnd = some false := by
  decide +kernel

theorem witness_HopCountRewritten :
    ∀ n ∈ [0, 1, 2], let s := inFrame 2 n
      s.inReset = false ∧ s.loop.clock = true ∧ s.loop.frameEnd = none ∧ s.loop.receiver = .inFrame ∧
        s.loop.frame.count = n := by decide +kernel

theorem witness_SlotAndCellBytesTaken :
    let s := { inFrame 2 3 with loop := { (inFrame 2 3).loop with reply := replying.loop.reply } }
    s.inReset = false ∧ s.loop.clock = true ∧ s.loop.frameEnd = none ∧ s.loop.receiver = .inFrame ∧
      s.loop.frame.count = 3 ∧ s.loop.position = some 0 ∧ s.loop.reply.isSome = true ∧
      (inFrame 2 3).loop.reply = none ∧ (inFrame 2 18).loop.frame.count = 4 + 14 ∧
      (inFrame 2 19).loop.frame.count = 19 ∧ 0 < (inFrame 2 19).loop.frame.slots.toNat ∧
      (inFrame 2 21).loop.frame.count = 19 + 2 * 1 ∧ 1 < (inFrame 2 21).loop.frame.slots.toNat ∧
      (inFrame 2 20).loop.frame.count = 20 + 2 * 0 ∧ (inFrame 2 23).loop.frame.count = 19 + 2 * 2 ∧
      (inFrame 2 37).loop.frame.count = 20 + 2 * 2 + 13 := by decide +kernel

theorem witness_CheckIsOfBytesSent :
    ∀ n ∈ [0, 37, 38, 39], let s := inFrame 2 n
      s.inReset = false ∧ s.loop.clock = true ∧ s.loop.frameEnd = none ∧ s.loop.receiver = .inFrame ∧
        s.loop.frame.count = n ∧ 34 + 2 * s.loop.frame.slots.toNat = 38 := by decide +kernel

theorem witness_GoodFrameEndCompletes :
    let s := ended true { emptyFrame with cell := some [0#8, 20#8, 1#8, 2#8] }
    let a := ended true { emptyFrame with flags := 0x80#8, hop := 3#8 }
    s.inReset = false ∧ s.loop.frameEnd = some true ∧ s.loop.position.isSome = true ∧
      takesFullReset [0#8, 20#8, 1#8, 2#8] s = true ∧ a.loop.frameEnd = some true ∧ a.loop.frame.cell = none ∧
      a.loop.frame.flags.getLsbD 7 = true := by decide +kernel

theorem witness_SlotRequestApplied :
    let s := ended true { emptyFrame with requests := [(0, 0xA0#8)] }
    s.loop.frame.requests = [(0, 0xA0#8)] ∧ (0xA0#8).getLsbD 7 = true ∧ (s.bay 0).loopIntent ≠ requestIntent 0xA0#8 ∧
      (s.bay 0).loopIntent = requestIntent 0x80#8 ∧ (0x20#8).getLsbD 7 = false := by decide +kernel

theorem witness_SlotRequestApplied_group :
    let s := (queued [7, 0]).setBay 5 (bayIn .idle)
    let s := { s with loop := { s.loop with frame := { emptyFrame with requests := [(5, 0xA0#8), (0, 0xE0#8)] } } }
    QueueMatches s ∧ (s.loop.frame.requests.map (·.1)).Nodup ∧ requestIntent 0xA0#8 = .on ∧
      requestIntent 0xE0#8 = .onExpedite ∧ (s.bay 5).state = .idle ∧ (s.bay 5).loopIntent = .follow ∧
      (s.bay 0).state = .queued ∧ (s.bay 0).mgmtIntent = .none ∧ (s.bay 0).cls = .cls 0 ∧ (s.bay 5).cls = .cls 0 ∧
      ((s.driveClass 0).surge : Int) ≤ s.acct.ceiling - s.acct.guardBand := by decide +kernel

theorem witness_CellRunsItsMessage :
    bench.inReset = false ∧ Takes bench 0#8 ∧ 20 < (21#8).toNat ∧ 5 < (6#8).toNat ∧ 2 < (3#8).toNat := by decide +kernel

theorem witness_LoopEventsComplete :
    (ended false emptyFrame).loop.frameEnd = some false ∧ (ended true emptyFrame).loop.frameEnd = some true ∧
      (ended true emptyFrame).inReset = false ∧ bench.loop.frameEnd = none ∧ clockless.loop.clock = false ∧
      clockless.inReset = false ∧ { bench.loop with timer := 0 }.timer = 0 ∧ bench.loop.lost = false := by decide +kernel

theorem witness_ReadingRequestsAnswer :
    Takes bench 0#8 ∧ bench.populated 23 = true ∧ (23#8).toNat ≤ 23 := by decide +kernel

theorem witness_BayPowerIntentsComplete : Takes bench 0#8 ∧ bench.populated 0 = true := by decide +kernel

theorem witness_BayPowerCycleAndClearComplete :
    Takes (benchWith running) 0#8 ∧ (benchWith running).populated 0 = true ∧
      ((benchWith running).bay 0).state = .run := by decide +kernel

theorem witness_BayResetAndClassComplete :
    let s := benchWith running
    Takes s 0#8 ∧ s.populated 0 = true ∧ (s.bay 0).state = .run ∧ (s.bay 0).cls = .cls 0 ∧
      (bench.bay 0).state ≠ .run ∧ 8 ≤ (8#8).toNat ∧ 8#8 ≠ 255#8 ∧ 7#8 = b8 7 := by decide +kernel

theorem witness_WindowMessagesComplete :
    Takes bench 0#8 ∧ bench.inReset = false ∧ bench.loop.position.isSome = true ∧ (23#8).toNat ≤ (23#8).toNat ∧
      (23#8).toNat < bench.rst.straps.bayCount ∧ ¬ (24#8).toNat < bench.rst.straps.bayCount ∧
      ¬ (3#8).toNat ≤ (2#8).toNat ∧ 32 ≤ (32#8).toNat ∧ 32#8 ≠ 255#8 := by decide +kernel

theorem witness_DriveTemperatureCompletes :
    let s := benchWith running
    Takes s 0#8 ∧ (23#8).toNat < min 24 s.rst.straps.bayCount ∧ min 24 s.rst.straps.bayCount ≤ (24#8).toNat ∧
      130#16 ≠ 0x8000#16 ∧ (s.bay 0).state = .run ∧ (bench.bay 0).state ≠ .run := by decide +kernel

theorem witness_TableWindowCompletes : Takes bench 0#8 ∧ (23#8).toNat < 24 ∧ ¬ (24#8).toNat < 24 := by decide +kernel

theorem witness_TableAccessFollowsPointer :
    Takes bench 0#8 ∧ bench.window = none ∧ Takes (windowAt 10 23) 0#8 ∧ (windowAt 10 23).window = some ⟨10, 23, 23, 23⟩ ∧
      (23#8).toNat = 23 ∧ (22#8).toNat ≠ 23 := by decide +kernel

theorem witness_TablePutStores :
    Takes (windowAt 2 7) 0#8 ∧ (windowAt 2 7).window = some ⟨2, 7, 7, 7⟩ ∧ (7#8).toNat = 7 ∧
      2 ≤ (0x80#8).toNat / 64 ∧ (0x7F#8).toNat / 64 < 2 ∧ (windowAt 5 23).window = some ⟨5, 23, 23, 23⟩ ∧
      (windowAt 9 0).window = some ⟨9, 0, 0, 0⟩ ∧ (windowAt 9 1).window = some ⟨9, 1, 1, 1⟩ ∧
      (windowAt 9 2).window = some ⟨9, 2, 2, 2⟩ ∧ (windowAt 9 5).window = some ⟨9, 5, 5, 5⟩ ∧
      (windowAt 3 31).window = some ⟨3, 31, 31, 31⟩ ∧ (windowAt 4 15).window = some ⟨4, 15, 15, 15⟩ ∧
      (0x77#8).toNat / 16 < 8 ∧ ¬ (0x80#8).toNat / 16 < 8 ∧ (windowAt 9 3).window = some ⟨9, 3, 3, 3⟩ ∧
      (1#8).toNat < 2 ∧ 2 ≤ (2#8).toNat ∧ (windowAt 9 4).window = some ⟨9, 4, 4, 4⟩ := by decide +kernel

theorem witness_TablePutTakesEffect :
    let s := windowAt 0 23
    let old := s.bayCfg 23
    let fans := windowAt 8 7
    Takes s 0#8 ∧ s.window = some ⟨0, 23, 23, 23⟩ ∧ s.populated 23 = true ∧ s.loop.slotMap.get 5 = fieldSlot s 23 (.slot 5) ∧
      (SlotField.slot 191) ≠ old.slot ∧ (1 : ZoneIx) ≠ old.zone ∧ Policy.manual ≠ old.policy ∧
      some (7 : ClassIx) ≠ old.override ∧ sixBays.populated 6 = false ∧ (windowAt 1 15).window = some ⟨1, 15, 15, 15⟩ ∧
      (windowAt 6 3).window = some ⟨6, 3, 3, 3⟩ ∧ (windowAt 7 8).window = some ⟨7, 8, 8, 8⟩ ∧
      ((windowAt 7 8).sensor 8).enabled = true ∧ fans.window = some ⟨8, 7, 7, 7⟩ := by decide +kernel

theorem witness_TablePutTakesEffect_bytes :
    let named := fun (b0 b1 b2 b3 b4 b5 : Byte) => decide ((b0.toNat < 192 ∨ 254 ≤ b0.toNat) ∧ b1.toNat < 4 ∧
      b2.toNat < 2 ∧ (b3.toNat < 8 ∨ b3.toNat = 255) ∧ b4.toNat < 2 ∧ b5.toNat < 32)
    named 191#8 3#8 1#8 7#8 1#8 31#8 ∧ named 254#8 0#8 0#8 255#8 0#8 0#8 ∧ ¬ named 192#8 0#8 0#8 0#8 0#8 0#8 ∧
      ¬ named 253#8 0#8 0#8 0#8 0#8 0#8 ∧ ¬ named 0#8 4#8 0#8 0#8 0#8 0#8 ∧ ¬ named 0#8 0#8 2#8 0#8 0#8 0#8 ∧
      ¬ named 0#8 0#8 0#8 8#8 0#8 0#8 ∧ ¬ named 0#8 0#8 0#8 254#8 0#8 0#8 ∧ ¬ named 0#8 0#8 0#8 0#8 2#8 0#8 ∧
      ¬ named 0#8 0#8 0#8 0#8 0#8 32#8 := by decide +kernel

theorem witness_TablePutTakesEffect_several :
    let s := { queued [7, 23] with window := some ⟨0, 23, 23, 23⟩ }
    QueueMatches s ∧ Takes s 0#8 ∧ s.populated 23 = true ∧ (s.bay 23).state = .queued ∧
      (s.bayCfg 23).policy = .auto ∧ (s.bayCfg 23).override = none ∧ (s.bayCfg 23).zone = 3 := by decide +kernel

/-- The last codes and numbers that a table entry refuses or clamps (R5, R89, R105, R117). -/
theorem test_tablePut_boundaries :
    let result := fun (table : Nat) (i : Byte) (e : List Byte) =>
      ((after (.tablePut 0#8 1#8 i e) (windowAt table i.toNat)).loop.reply).map (·.result)
    result 0 23#8 [253#8, 3#8, 1#8, 255#8, 1#8, 31#8] = some .badArgument ∧
      result 0 23#8 [254#8, 3#8, 1#8, 255#8, 1#8, 31#8] = some .ok ∧
      result 6 3#8 [0#8, 110#8, 32#8, 200#8] = some .okClamped ∧ result 6 3#8 [0#8, 110#8, 31#8, 200#8] = some .ok ∧
      result 7 8#8 [1#8, 254#8, 0#8, 7#8, 0#8, 0#8, 0#8] = some .badArgument ∧
      result 7 8#8 [1#8, 255#8, 0#8, 8#8, 0#8, 0#8, 0#8] = some .okClamped ∧
      result 8 7#8 [0#8, 3#8, 0#8, 0#8, 0#8, 0#8, 0#8, 5#8] = some .okClamped ∧
      result 8 7#8 [0#8, 3#8, 0#8, 0#8, 0#8, 0#8, 0#8, 4#8] = some .ok := by decide +kernel

theorem witness_StoredEntriesReadBack :
    let s := windowAt 5 23
    let t := after (.tablePut 0#8 1#8 23#8 [0x7F#8, 0#8, 200#8]) s
    Takes s 0#8 ∧ MapResolved s ∧ (23#8).toNat < entryCount 5 ∧ (t.loop.reply.map (·.result)) = some .okClamped := by
  decide +kernel

theorem witness_CurveActivateCompletes :
    Takes bench 0#8 ∧ ascending bench.cool.pendingCurves 3 = true ∧
      ascending (Vector.replicate 24 (⟨0, 0⟩ : Point)) 3 = false := by decide +kernel

theorem witness_PartResetLoopCompletes :
    bench.inReset = false ∧ bench.loop.position.isSome = true ∧ Takes bench 0#8 := by decide +kernel

theorem witness_PartResetTablesCompletes :
    bench.inReset = false ∧ bench.loop.position.isSome = true ∧ Takes bench 0#8 ∧ QueueMatches (queued [3, 0]) := by
  decide +kernel

theorem witness_TriggersHoldThePart :
    heldBench.rst.pin = true ∧ (after .powerOnReset bench).rst.powerOn = true ∧ bench.inReset = false := by
  decide +kernel

theorem witness_FullResetTaken :
    (after .powerOnReset bench).rst.powerOn = true ∧ (after .powerOnReset bench).rst.pin = false ∧
      heldBench.rst.powerOn = false ∧ heldBench.rst.pin = true ∧ Takes bench 0#8 := by decide +kernel

theorem witness_QueueMatchesKept :
    QueueMatches (waiting .staggerBoundary (queued [3, 0])) ∧ stepsOn (waiting .staggerBoundary (queued [3, 0])) = true := by
  decide +kernel

theorem witness_PaceRespectedKept :
    PaceRespected (waiting .staggerBoundary bench) ∧ stepsOn (waiting .staggerBoundary bench) = true := by
  decide +kernel

theorem witness_BaysMatchKept :
    let s := waiting (.presenceLoss 0) (benchWith (bayIn .run))
    BaysMatch s ∧ 100 ≤ s.sup.drainSetting ∧ PresenceMatches s ∧ stepsOn s = true := by decide +kernel

/-- A part with six bays after its reset, with an event of an absent bay waiting. -/
def sixBaysReset : State :=
  waiting (.presenceActive 6)
    { State.reset with rst := { State.reset.rst with straps := { State.reset.rst.straps with bayCount := 6 } } }

theorem witness_AbsentStayDefaultKept :
    AbsentStayDefault sixBaysReset ∧ MapResolved sixBaysReset ∧ stepsOn sixBaysReset = true := by
  have h : ∀ b : BayIx, sixBaysReset.populated b = false →
      sixBaysReset.bay b = defaultBay ∧ sixBaysReset.temp b = none ∧ sixBaysReset.bayLights b = defaultBayLights ∧
        sixBaysReset.loop.slotMap.get b = none ∧ sixBaysReset.loop.frame.map.get b = none := by decide +kernel
  refine ⟨fun b hb => ?_, by decide +kernel⟩
  obtain ⟨h1, h2, h3, h4, h5⟩ := h b hb
  exact ⟨h1, h2, h3, h4, h5, fun q hq => nomatch (show q ∈ [] from hq)⟩

theorem witness_CoolingMatchesKept :
    CoolingMatches (waiting .coolingUpdate (benchAt 1000)) ∧ stepsOn (waiting .coolingUpdate (benchAt 1000)) = true := by
  decide +kernel

theorem witness_MapAndWindowKept :
    let s := waiting (.tableGet 0#8 1#8 23#8) (windowAt 0 23)
    MapResolved s ∧ WindowInBounds s ∧ s.loop.slotMap.get 5 = some 5 ∧ stepsOn s = true := by decide +kernel

theorem witness_RangesKept :
    let s := waiting (.blinkSync 0#8 1#8) bench
    ReadingsInRange s ∧ LightsInRange s ∧ EntriesInRange s ∧ SettingsInRange s ∧ stepsOn s = true := by
  refine ⟨?_, ?_, ?_, ?_, ?_⟩ <;> decide +kernel

end Sys2Proof.Tests
end

section
/-! PROOFS. Every well-formed command answers a next state (spec 00): the rows of a bay line, the message rows and the
rows of the part as a whole. -/

namespace Sys2Proof.Machine

open Sys2Proof.Safety

/-! ### What the wrappers answer -/

/-- A meaning that is live always answers. -/
theorem live_answers (s : State) (k : State → State) : ∃ t, live s k = .next t := by
  unfold live
  split
  · exact ⟨_, rfl⟩
  · exact ⟨_, rfl⟩

/-- An event of a bay line the part has always answers. -/
theorem onBay_answers {n : Nat} (h : n < 24) (s : State) (k : BayIx → State → State) :
    ∃ t, onBay n s k = .next t := by
  unfold onBay
  rw [dif_pos h]
  split
  · exact ⟨_, rfl⟩
  · exact ⟨_, rfl⟩

/-- An event of a fan line the part has always answers. -/
theorem onFan_answers {n : Nat} (h : n < 8) (s : State) (k : FanIx → State → State) :
    ∃ t, onFan n s k = .next t := by
  unfold onFan
  rw [dif_pos h]
  split
  · exact ⟨_, rfl⟩
  · exact ⟨_, rfl⟩

/-- A choice between two next states is a next state. -/
theorem ite_answers (p : Prop) [Decidable p] (s t : State) :
    ∃ u, (if p then Host.Outcome.next s else .next t : Out) = .next u := by
  split
  · exact ⟨_, rfl⟩
  · exact ⟨_, rfl⟩

/-! ### The commands by their rows -/

/-- A row of a bay line is an event of that line (R3). -/
theorem exec_of_bayLine {c : Instr} {n : Nat} (h : bayLine c = some n) : ∃ k, ∀ s, exec c s = onBay n s k := by
  cases c <;> cases h
  case debounceExpiry => exact ⟨fun b s => if debounceDue s b then takeExpiries s else s, fun _ => rfl⟩
  case drainExpiry => exact ⟨fun b s => if drainDue s b then takeExpiries s else s, fun _ => rfl⟩
  all_goals exact ⟨_, fun _ => rfl⟩

/-- A well-formed row of a bay line names a line the part has. -/
theorem bayLine_lt {c : Instr} {n : Nat} (h : bayLine c = some n) (hc : c.wellFormed = true) : n < 24 := by
  cases c <;> cases h <;> exact of_decide_eq_true hc

/-- A message row hands a request cell with its destination over (R162; log 12). -/
theorem exec_of_destination {c : Instr} {d : Byte} (h : destination c = some d) :
    ∃ tag kind acts run, ∀ s, exec c s = live s (deliver d tag kind acts run) := by
  cases c <;> cases h <;> exact ⟨_, _, _, _, fun _ => rfl⟩

/-- LOOP_SYMBOL answers with the loop clock stopped, in the held phase, and otherwise. -/
theorem execLoopSymbol_answers (bits : BitVec 9) (s : State) : ∃ t, execLoopSymbol bits s = .next t := by
  unfold execLoopSymbol
  split
  · exact ⟨_, rfl⟩
  · exact ite_answers _ _ _

/-- RESET_TRIGGER_END answers at a part that is not held, at one held by the other trigger, and at one released. -/
theorem execResetTriggerEnd_answers (trigger : ResetTrigger) (s : State) :
    ∃ t, execResetTriggerEnd trigger s = .next t := by
  unfold execResetTriggerEnd
  split
  · exact ite_answers _ _ _
  · exact ⟨_, rfl⟩

/-- Every well-formed command answers a next state: by its bay line, by its destination, or row by row. -/
theorem exec_answers {c : Instr} (hc : c.wellFormed = true) (s : State) : ∃ t, exec c s = .next t := by
  cases hb : bayLine c with
  | some n =>
    obtain ⟨k, hk⟩ := exec_of_bayLine hb
    rw [hk]
    exact onBay_answers (bayLine_lt hb hc) s k
  | none =>
    cases hd : destination c with
    | some d =>
      obtain ⟨tag, kind, acts, run, hr⟩ := exec_of_destination hd
      rw [hr]
      exact live_answers s _
    | none =>
      match c, hb, hd with
      | .timebaseTick _ _, _, _ => exact ite_answers _ _ _
      | .tachPulse _, _, _ => exact onFan_answers (of_decide_eq_true hc) s _
      | .staggerBoundary, _, _ => exact live_answers s _
      | .coolingUpdate, _, _ => exact live_answers s _
      | .conversionEnd, _, _ => exact live_answers s _
      | .loopTimerExpiry, _, _ => exact live_answers s _
      | .goodFrameEnd, _, _ => exact live_answers s _
      | .badCheckFrameEnd, _, _ => exact live_answers s _
      | .loopSymbol bits, _, _ => exact execLoopSymbol_answers bits s
      | .loopBreak, _, _ => exact ite_answers _ _ _
      | .loopClockReturn, _, _ => exact ite_answers _ _ _
      | .powerOnReset, _, _ => exact ⟨_, rfl⟩
      | .resetPin, _, _ => exact ⟨_, rfl⟩
      | .resetTriggerEnd trigger, _, _ => exact execResetTriggerEnd_answers trigger s

/-- Settles O2: every well-formed row answers, and the wrappers of the bay and fan lines stop at a line the part does
not have (log 23). -/
theorem wellFormedCommandsComplete : Obligations.WellFormedCommandsComplete := by
  refine ⟨fun c s hc => exec_answers hc s, fun c s n hb hn => ?_, fun s n hn => onFan_noLine hn _⟩
  obtain ⟨k, hk⟩ := exec_of_bayLine hb
  rw [hk]
  exact onBay_noLine hn k

end Sys2Proof.Machine
end

section
/-! PROOFS. The rows of an event act when their event has come about, and change nothing otherwise (log 1). -/

namespace Sys2Proof.Machine

open Sys2Proof.Safety

/-- The meaning of an event row of a bay line: its change where the event is due at the bay (log 1). -/
def whenDue (due : State → BayIx → Bool) (change : BayIx → State → State) (b : BayIx) (s : State) : State :=
  if due s b then change b s else s

theorem whenDue_due {due : State → BayIx → Bool} {s : State} {b : BayIx} (h : due s b = true)
    (change : BayIx → State → State) : whenDue due change b s = change b s := if_pos h

theorem whenDue_notDue {due : State → BayIx → Bool} {s : State} {b : BayIx} (h : due s b = false)
    (change : BayIx → State → State) : whenDue due change b s = s := if_neg (by simp [h])

/-- An event that has not come about at its bay changes nothing, whether or not the part is held or the bay absent. -/
theorem onBay_notDue {due : State → BayIx → Bool} {s : State} {b : BayIx} (h : due s b = false)
    (change : BayIx → State → State) : onBay b.val s (whenDue due change) = .next s := by
  unfold onBay
  simp [whenDue_notDue h]

/-- An event of the part as a whole that has not come about changes nothing. -/
theorem live_notDue {due : State → Prop} [DecidablePred due] {s : State} (h : ¬ due s) (change : State → State) :
    live s (fun s => if due s then change s else s) = .next s := by
  unfold live
  simp [h]

theorem boundaryDue_iff (s : State) : boundaryDue s = true ↔ s.sched.nextBoundary ≤ s.time.now := by
  simp [boundaryDue]

theorem coolingDue_iff (s : State) : coolingDue s = true ↔ s.cool.periodEnd ≤ s.time.now := by
  simp [coolingDue]

theorem loopTimerDue_iff (s : State) : loopTimerDue s = true ↔ s.loop.timer = 0 ∧ s.loop.lost = false := by
  simp [loopTimerDue]

/-- A symbol without a loop clock changes nothing (R149; log 10). -/
theorem execLoopSymbol_clockStopped {s : State} (h : s.loop.clock = false) (bits : BitVec 9) :
    execLoopSymbol bits s = .next s := by
  simp [execLoopSymbol, h]

/-- The return of a clock that runs changes nothing. -/
theorem execLoopClockReturn_clockRunning {s : State} (h : s.loop.clock = true) : execLoopClockReturn s = .next s := by
  simp [execLoopClockReturn, h]

/-- Settles O5, row by row: the rows of the bay lines, then those of the part as a whole, then the loop clock's. -/
theorem eventsNotDueChangeNothing : Obligations.EventsNotDueChangeNothing := by
  intro s
  refine ⟨fun b =>
    ⟨fun h => onBay_notDue h fun b => event (presenceActive b),
      fun h => onBay_notDue h fun b => event (presenceLoss b),
      fun h => onBay_notDue h fun b => event (powerGoodSeen b),
      fun h => onBay_notDue h fun b => event (powerGoodLost b),
      fun h => onBay_notDue h fun b => event (switchFault b),
      fun h => onBay_notDue h fun b s => s.setBayLights b (s.bayLights b).edge,
      fun h => onBay_notDue h fun _ => takeExpiries,
      fun h => onBay_notDue h fun _ => takeExpiries,
      fun h => onBay_notDue h fun b => event (surgeDeadline b),
      fun h => onBay_notDue h fun b => event (powerGoodDeadline b),
      fun h => onBay_notDue h fun b => event (resetHoldExpiry b),
      fun h => onBay_notDue h fun b => event (·.map (turnStale b)),
      fun h => onBay_notDue h fun b s => s.setBayLights b (s.bayLights b).expire⟩,
    fun h => ?_, fun h => ?_, fun h => ?_, fun h => ?_, fun h => ?_, fun h => ?_,
    execLoopSymbol_clockStopped, execLoopClockReturn_clockRunning⟩
  · exact live_notDue (due := (boundaryDue · = true)) (by rw [boundaryDue_iff]; omega) takeBoundary
  · exact live_notDue (due := (coolingDue · = true)) (by rw [coolingDue_iff]; omega) takeCooling
  · exact live_notDue (due := (·.scan.slotDue = true)) (by simp [h]) takeConversion
  · exact live_notDue (due := (loopTimerDue · = true)) (by grind [loopTimerDue_iff]) takeLoopTimer
  · exact live_notDue (due := (·.loop.frameEnd = some true)) h goodEnd
  · exact live_notDue (due := (·.loop.frameEnd = some false)) h badEnd

end Sys2Proof.Machine
end

section
/-! PROOFS. The reset triggers and the mark of a frame end: what the rows of the part leave of them. -/

namespace Sys2Proof.Machine

open Sys2Proof.Safety

/-- The reset triggers and the mark of a frame end: what decides whether a frame end's row, or any row, acts. -/
def State.endMark (s : State) : ResetUnit × Option Bool := (s.rst, s.loop.frameEnd)

theorem State.endMark_of_loop_rst {s t : State} (h : t.loop = s.loop ∧ t.rst = s.rst) : t.endMark = s.endMark := by
  simp only [State.endMark, h.1, h.2]

theorem State.inReset_of_endMark {s t : State} (h : t.endMark = s.endMark) : t.inReset = s.inReset := by
  have hr : t.rst = s.rst := congrArg Prod.fst h
  simp only [State.inReset, hr]

/-! ### Updates and working records -/

@[simp] theorem State.endMark_setBay (s : State) (b : BayIx) (x : Bay) : (s.setBay b x).endMark = s.endMark := rfl
@[simp] theorem State.endMark_setBayCfg (s : State) (b : BayIx) (x : BayCfg) :
    (s.setBayCfg b x).endMark = s.endMark := rfl
@[simp] theorem State.endMark_setTemp (s : State) (b : BayIx) (x : Option TempRec) :
    (s.setTemp b x).endMark = s.endMark := rfl
@[simp] theorem State.endMark_setChannel (s : State) (ch : ChannelIx) (x : Channel) :
    (s.setChannel ch x).endMark = s.endMark := rfl
@[simp] theorem State.endMark_setBayLights (s : State) (b : BayIx) (x : BayLights) :
    (s.setBayLights b x).endMark = s.endMark := rfl
@[simp] theorem State.endMark_raise (s : State) (b : BayIx) (k : AttnSet) : (s.raise b k).endMark = s.endMark := rfl
@[simp] theorem resolveMap_endMark (s : State) : (resolveMap s).endMark = s.endMark := by
  simp only [State.endMark, resolveMap]

@[simp] theorem Work.st_map (w : Work) (f : State → State) : (w.map f).st = f w.st := rfl
@[simp] theorem Work.endMark_setBay (w : Work) (b : BayIx) (x : Bay) : (w.setBay b x).st.endMark = w.st.endMark := rfl
@[simp] theorem Work.endMark_withdraw (w : Work) (b : BayIx) : (w.withdraw b).st.endMark = w.st.endMark := rfl
@[simp] theorem Work.st_owe (w : Work) : w.owe.st = w.st := rfl

/-- A fold keeps the mark where each of its calls does. -/
theorem foldl_endMark {α : Type} {k : State → α → State} (h : ∀ s x, (k s x).endMark = s.endMark) (l : List α)
    (s : State) : (l.foldl k s).endMark = s.endMark := by
  induction l generalizing s with
  | nil => rfl
  | cons x l ih => exact (ih _).trans (h s x)

/-- The same for a fold over working records. -/
theorem foldl_endMark_work {α : Type} {k : Work → α → Work} (h : ∀ w x, (k w x).st.endMark = w.st.endMark)
    (l : List α) (w : Work) : (l.foldl k w).st.endMark = w.st.endMark := by
  induction l generalizing w with
  | nil => rfl
  | cons x l ih => exact (ih _).trans (h w x)

/-- An event keeps the mark where its changes do. -/
theorem event_endMark {f : Work → Work} (h : ∀ w, (f w).st.endMark = w.st.endMark) (s : State) :
    (event f s).endMark = s.endMark :=
  (State.endMark_of_loop_rst (event_loop_rst f s)).trans (h (Work.start s))

/-! ### The transitions of a bay (chapter 1) -/

@[simp] theorem removePower_endMark (b : BayIx) (next : BayState) (w : Work) :
    (removePower b next w).st.endMark = w.st.endMark := rfl

@[simp] theorem enterFault_endMark (b : BayIx) (c : FaultCause) (w : Work) :
    (enterFault b c w).st.endMark = w.st.endMark := State.endMark_of_loop_rst (enterFault_loop_rst b c w)

@[simp] theorem enterEmpty_endMark (b : BayIx) (w : Work) : (enterEmpty b w).st.endMark = w.st.endMark := rfl

@[simp] theorem enterSettling_endMark (b : BayIx) (w : Work) : (enterSettling b w).st.endMark = w.st.endMark := rfl

@[simp] theorem enterRun_endMark (b : BayIx) (w : Work) : (enterRun b w).st.endMark = w.st.endMark := rfl

@[simp] theorem readCarrier_endMark (b : BayIx) (w : Work) : (readCarrier b w).st.endMark = w.st.endMark := rfl

@[simp] theorem evaluate_endMark (b : BayIx) (w : Work) : (evaluate b w).st.endMark = w.st.endMark :=
  State.endMark_of_loop_rst (evaluate_loop_rst b w)

@[simp] theorem enterIdle_endMark (b : BayIx) (w : Work) : (enterIdle b w).st.endMark = w.st.endMark := by
  unfold enterIdle
  dsimp only
  split <;> simp

@[simp] theorem leaveUnpowered_endMark (b : BayIx) (w : Work) : (leaveUnpowered b w).st.endMark = w.st.endMark := by
  unfold leaveUnpowered
  split <;> simp

@[simp] theorem reresolve_endMark (b : BayIx) (w : Work) : (reresolve b w).st.endMark = w.st.endMark := by
  unfold reresolve
  dsimp only
  repeat' split
  all_goals simp

/-! ### The bay events of a scan, of a timer and of a message -/

theorem presenceActive_endMark (b : BayIx) (w : Work) : (presenceActive b w).st.endMark = w.st.endMark := by
  unfold presenceActive
  dsimp only
  split <;> simp

theorem presenceLoss_endMark (b : BayIx) (w : Work) : (presenceLoss b w).st.endMark = w.st.endMark := by
  unfold presenceLoss
  dsimp only
  repeat' split
  all_goals simp

theorem powerGoodSeen_endMark (b : BayIx) (w : Work) : (powerGoodSeen b w).st.endMark = w.st.endMark := by
  unfold powerGoodSeen
  dsimp only
  repeat' split
  all_goals simp

@[simp] theorem debounceExpiry_endMark (b : BayIx) (w : Work) : (debounceExpiry b w).st.endMark = w.st.endMark := by
  simp [debounceExpiry]

@[simp] theorem drainExpiry_endMark (b : BayIx) (w : Work) : (drainExpiry b w).st.endMark = w.st.endMark := by
  unfold drainExpiry
  dsimp only
  repeat' split
  all_goals simp

theorem expiry_endMark (b : BayIx) (w : Work) : (expiry b w).st.endMark = w.st.endMark := by
  unfold expiry
  repeat' split
  all_goals simp

theorem takeExpiries_endMark (s : State) : (takeExpiries s).endMark = s.endMark := by
  refine event_endMark (foldl_endMark_work (fun w b => ?_) _) s
  split
  · exact expiry_endMark b w
  · rfl

theorem surgeDeadline_endMark (b : BayIx) (w : Work) : (surgeDeadline b w).st.endMark = w.st.endMark := by
  unfold surgeDeadline
  dsimp only
  repeat' split
  all_goals simp

theorem powerGoodDeadline_endMark (b : BayIx) (w : Work) : (powerGoodDeadline b w).st.endMark = w.st.endMark := by
  unfold powerGoodDeadline
  dsimp only
  repeat' split
  all_goals simp

theorem clearFault_endMark (b : BayIx) (w : Work) : (clearFault b w).st.endMark = w.st.endMark := by
  unfold clearFault
  dsimp only
  split <;> simp

/-! ### Sensing (chapter 4) and cooling (chapter 5) -/

theorem endSlot_endMark (s : State) : (endSlot s).endMark = s.endMark := by
  have choose : ∀ t : State, (chooseChannel t).endMark = t.endMark := by
    intro t
    unfold chooseChannel
    split <;> rfl
  have latched : ∀ (ch : ChannelIx) (t : State), (latch ch t).endMark = t.endMark := by
    intro ch t
    unfold latch
    dsimp only
    split <;> rfl
  unfold endSlot
  refine (choose _).trans ?_
  split
  · split
    · rfl
    · exact latched _ s
  · rfl

@[simp] theorem turnStale_endMark (b : BayIx) (s : State) : (turnStale b s).endMark = s.endMark := by
  unfold turnStale
  split <;> simp

@[simp] theorem revive_endMark (b : BayIx) (s : State) : (revive b s).endMark = s.endMark := by
  unfold revive
  dsimp only
  repeat' split
  all_goals simp

@[simp] theorem rejudgeAll_endMark (s : State) : (rejudgeAll s).endMark = s.endMark := by
  refine foldl_endMark (fun t b => ?_) _ s
  unfold rejudge
  repeat' split
  all_goals simp

theorem storeReport_endMark (b : BayIx) (v : Int) (w : Work) : (storeReport b v w).st.endMark = w.st.endMark := by
  unfold storeReport
  dsimp only
  repeat' split
  all_goals simp

@[simp] theorem takeReport_endMark (n : Nat) (v : BitVec 16) (w : Work) :
    (takeReport n v w).st.endMark = w.st.endMark := by
  unfold takeReport
  split
  · rfl
  · split
    · split
      · exact storeReport_endMark ..
      · rfl
    · rfl

theorem writeSensor_endMark (ch : ChannelIx) (c : SensorCfg) (s : State) :
    (writeSensor ch c s).endMark = s.endMark := by
  unfold writeSensor
  dsimp only
  repeat' split
  all_goals simp only [State.endMark, State.setChannel]

@[simp] theorem recomputeHolds_endMark (s : State) : (recomputeHolds s).endMark = s.endMark := by
  simp only [State.endMark, recomputeHolds, mapZones]

@[simp] theorem handReserve_endMark (s : State) : (handReserve s).endMark = s.endMark := by
  simp only [State.endMark, handReserve]

@[simp] theorem mapZones_endMark (f : ZoneIx → Zone → Zone) (s : State) : (mapZones f s).endMark = s.endMark := by
  simp only [State.endMark, mapZones]

@[simp] theorem mapFans_endMark (g : FanIx → Fan → Fan) (s : State) : (mapFans g s).endMark = s.endMark := by
  simp only [State.endMark, mapFans]

theorem coolingStages_endMark (s : State) : (coolingStages s).endMark = s.endMark := by
  have period : ∀ t : State, (nextPeriod t).endMark = t.endMark := fun t => by simp only [State.endMark, nextPeriod]
  simp [coolingStages, period, stageFans, stageDemands, stageTemps, stageTach]

theorem writeFan_endMark (f : FanIx) (c : FanCfg) (s : State) : (writeFan f c s).endMark = s.endMark := by
  unfold writeFan spreadFailure
  dsimp only
  simp only [recomputeHolds_endMark, handReserve_endMark, mapFans_endMark, mapZones_endMark]
  simp only [State.endMark, State.setFan]

/-! ### Table writes (R178) and the resets of TABLES and LOOP scope (R183, R184) -/

theorem writeBayCfg_endMark (b : BayIx) (c : BayCfg) (w : Work) : (writeBayCfg b c w).st.endMark = w.st.endMark := by
  unfold writeBayCfg
  dsimp only
  repeat' split
  all_goals simp

theorem writePower_endMark (c g m : Nat) (w : Work) : (writePower c g m w).st.endMark = w.st.endMark := by
  unfold writePower
  dsimp only
  split <;> simp only [State.endMark, Work.st_owe, Work.st_map]

theorem writeCooling_endMark (p u d l : Nat) (w : Work) : (writeCooling p u d l w).st.endMark = w.st.endMark := by
  unfold writeCooling
  dsimp only
  split
  · rw [Work.st_map, rejudgeAll_endMark]
    simp only [State.endMark, Work.st_map]
  · simp only [State.endMark, Work.st_map]

/-- A put that stores keeps the mark. -/
def Put.KeepsMark (p : Put) : Prop := ∀ clamped f, p = .store clamped f → ∀ w, (f w).st.endMark = w.st.endMark

theorem Put.keepsMark_refuse (r : Result) : (Put.refuse r).KeepsMark := fun _ _ h => nomatch h

theorem Put.keepsMark_store {f : Work → Work} (h : ∀ w, (f w).st.endMark = w.st.endMark) (clamped : Bool) :
    (Put.store clamped f).KeepsMark := by
  rintro _ _ ⟨⟩
  exact h

theorem Put.keepsMark_of {α : Type} {f : α → Work → Work} (h : ∀ v w, (f v w).st.endMark = w.st.endMark)
    (x : Option (α × Bool)) : (Put.of x f).KeepsMark := by
  unfold Put.of
  split
  · exact Put.keepsMark_store (h _) _
  · exact Put.keepsMark_refuse _

theorem putBayCfg_keepsMark (b : BayIx) (e : List Byte) (s : State) : (putBayCfg b e s).KeepsMark := by
  unfold putBayCfg
  split
  · exact Put.keepsMark_refuse _
  · split
    · exact Put.keepsMark_refuse _
    · exact Put.keepsMark_store (writeBayCfg_endMark b _) _

theorem putPart_keepsMark (i : Nat) (e : List Byte) : (putPart i e).KeepsMark := by
  unfold putPart
  split
  · exact Put.keepsMark_store (writePower_endMark _ _ _) _
  · refine Put.keepsMark_store (fun w => ?_) _
    simp only [State.endMark, writePace, Work.st_map]
  · refine Put.keepsMark_store (fun w => ?_) _
    simp only [State.endMark, writeTiming, Work.st_map]
  · split
    · exact Put.keepsMark_refuse _
    · refine Put.keepsMark_store (fun w => ?_) _
      simp only [State.endMark, writeLoop, Work.st_map]
  · exact Put.keepsMark_store (writeCooling_endMark _ _ _ _) _
  · refine Put.keepsMark_store (fun w => ?_) _
    simp only [State.endMark, writeBrightness, Work.st_map]

theorem putEntry_keepsMark (table i : Nat) (e : List Byte) (s : State) : (putEntry table i e s).KeepsMark := by
  unfold putEntry
  split
  · exact putBayCfg_keepsMark _ e s
  · refine Put.keepsMark_of (fun c w => ?_) _
    simp only [State.endMark, writeCarrier, Work.st_map]
  · refine Put.keepsMark_of (fun c w => ?_) _
    simp only [State.endMark, writeClass, Work.st_owe, Work.st_map]
  · refine Put.keepsMark_of (fun p w => ?_) _
    simp only [State.endMark, writePatterns, Work.st_map]
  · refine Put.keepsMark_of (fun r w => ?_) _
    simp only [State.endMark, writeRule, Work.st_map]
  · refine Put.keepsMark_store (fun w => ?_) _
    simp only [State.endMark, writePoint, Work.st_map]
  · refine Put.keepsMark_store (fun w => ?_) _
    rw [writeZoneCfg, Work.st_map, recomputeHolds_endMark]
    simp only [State.endMark]
  · refine Put.keepsMark_of (fun c w => ?_) _
    rw [Work.st_map, writeSensor_endMark]
  · refine Put.keepsMark_of (fun c w => ?_) _
    rw [Work.st_map, writeFan_endMark]
  · exact putPart_keepsMark i e
  · exact Put.keepsMark_refuse _

theorem restoreFans_endMark (s : State) : (restoreFans s).endMark = s.endMark := by
  unfold restoreFans
  dsimp only
  rw [mapZones_endMark, mapFans_endMark]
  simp only [State.endMark, mapFans]

theorem restoreSensors_endMark (s : State) : (restoreSensors s).endMark = s.endMark :=
  foldl_endMark (fun t ch => writeSensor_endMark ch _ t) _ s

theorem restoreAll_endMark (s : State) : (restoreAll s).endMark = s.endMark := by
  have values : (restoreValues s).endMark = s.endMark := by simp only [State.endMark, restoreValues]
  unfold restoreAll
  dsimp only
  split <;> simp [restoreFans_endMark, restoreSensors_endMark, values]

theorem restoreBays_endMark (old : State) (w : Work) : (restoreBays old w).st.endMark = w.st.endMark := by
  unfold restoreBays
  refine (foldl_endMark_work (fun w b => ?_) _ _).trans (foldl_endMark_work (fun w b => ?_) _ w)
  · unfold evaluateRestored
    repeat' split
    all_goals simp
  · split <;> simp

theorem resetTables_endMark (s : State) : (resetTables s).endMark = s.endMark := by
  refine event_endMark (fun w => ?_) s
  rw [Work.st_owe, restoreBays_endMark, Work.st_map, restoreAll_endMark]

theorem resetLoop_endMark (s : State) : (resetLoop s).endMark = s.endMark := by
  rw [resetLoop, resolveMap_endMark]
  simp only [State.endMark]

end Sys2Proof.Machine
end

section
/-! PROOFS. A frame end that has been taken stays taken: no request of a frame and no message marks another one or
holds the part in reset. -/

namespace Sys2Proof.Machine

open Sys2Proof.Safety

/-- The part is not held in reset, and no frame end waits to be taken. -/
def State.FrameTaken (s : State) : Prop := s.inReset = false ∧ s.loop.frameEnd = none

theorem State.FrameTaken.of_endMark {s t : State} (h : t.endMark = s.endMark) (hs : s.FrameTaken) : t.FrameTaken :=
  ⟨(State.inReset_of_endMark h).trans hs.1, (congrArg Prod.snd h).trans hs.2⟩

/-! ### The messages (chapter 8) -/

/-- The execution of a request keeps the mark of a frame end. -/
def Answer.Keeps (a : Answer) (s : State) : Prop := a.st.endMark = s.endMark

theorem refuse_keeps (r : Result) (s : State) : (refuse r s).Keeps s := rfl

theorem report_keeps (data : List Byte) (s : State) : (report data s).Keeps s := rfl

theorem accept_keeps {s t : State} (h : t.endMark = s.endMark) : (accept t).Keeps s := h

theorem onNamedBay_keeps {s : State} {k : BayIx → Answer} (h : ∀ b, (k b).Keeps s) (bay : Byte) :
    (onNamedBay bay s k).Keeps s := by
  unfold onNamedBay
  split
  · exact h _
  · exact refuse_keeps _ s

theorem onWindow_keeps {k : State → BayIx → State} (h : ∀ s b, (k s b).endMark = s.endMark) (start stop : Byte)
    (s : State) : (onWindow start stop s k).Keeps s := by
  unfold onWindow
  split
  · exact accept_keeps (foldl_endMark h _ s)
  · exact refuse_keeps _ s

theorem msgIntent_keeps (i : MgmtIntent) (bay : Byte) (s : State) : (msgIntent i bay s).Keeps s := by
  refine onNamedBay_keeps (fun b => ?_) bay
  split
  · exact refuse_keeps _ s
  · exact accept_keeps (event_endMark (fun w => by simp [setIntent]) s)

theorem msgExpedite_keeps (bay : Byte) (s : State) : (msgExpedite bay s).Keeps s := by
  refine onNamedBay_keeps (fun b => ?_) bay
  split
  · exact refuse_keeps _ s
  · exact accept_keeps (event_endMark (fun w => by simp [expediteBay, setIntent, setExpedite]) s)

theorem msgCycle_keeps (bay : Byte) (s : State) : (msgCycle bay s).Keeps s := by
  refine onNamedBay_keeps (fun b => ?_) bay
  split
  · exact accept_keeps (event_endMark (fun w => by simp [cycleBay, setExpedite]) s)
  · exact refuse_keeps _ s

theorem msgClear_keeps (bay : Byte) (s : State) : (msgClear bay s).Keeps s := by
  refine onNamedBay_keeps (fun b => ?_) bay
  split
  · exact accept_keeps (event_endMark (clearFault_endMark b) s)
  · exact refuse_keeps _ s

theorem msgBayPower_keeps (bay action : Byte) (s : State) : (msgBayPower bay action s).Keeps s := by
  unfold msgBayPower
  split
  · exact msgIntent_keeps _ _ s
  · exact msgExpedite_keeps _ s
  · exact msgIntent_keeps _ _ s
  · exact msgIntent_keeps _ _ s
  · exact msgCycle_keeps _ s
  · exact msgClear_keeps _ s
  · exact refuse_keeps _ s

theorem msgBayReset_keeps (bay : Byte) (s : State) : (msgBayReset bay s).Keeps s := by
  refine onNamedBay_keeps (fun b => ?_) bay
  split
  · exact accept_keeps (State.endMark_setBay s b _)
  · exact refuse_keeps _ s

theorem msgBayClass_keeps (bay cls : Byte) (s : State) : (msgBayClass bay cls s).Keeps s := by
  refine onNamedBay_keeps (fun b => ?_) bay
  have taken : ∀ o, (accept (event (classBay b o) s)).Keeps s := fun o =>
    accept_keeps (event_endMark (fun w => by simp [classBay]) s)
  cases decodeOverride cls.toNat with
  | none => exact refuse_keeps _ s
  | some o =>
    cases hb : (s.bay b).state with
    | surge | run | drain => simpa only [hb] using refuse_keeps .busy s
    | empty | settling | idle | queued | fault => simpa only [hb] using taken o

theorem msgBayRead_keeps (bay : Byte) (s : State) : (msgBayRead bay s).Keeps s :=
  onNamedBay_keeps (fun _ => report_keeps _ s) bay

theorem msgAttentionClear_keeps (start stop kinds : Byte) (s : State) :
    (msgAttentionClear start stop kinds s).Keeps s := by
  unfold msgAttentionClear
  split
  · exact refuse_keeps _ s
  · exact onWindow_keeps (fun s b => State.endMark_setBay s b _) start stop s

theorem msgAttentionMask_keeps (start stop setMask clearMask : Byte) (s : State) :
    (msgAttentionMask start stop setMask clearMask s).Keeps s := by
  unfold msgAttentionMask
  split
  · exact onWindow_keeps (fun s b => State.endMark_setBayCfg s b _) start stop s
  · exact refuse_keeps _ s

theorem msgHold_keeps (start stop : Byte) (h : Option (Fin 32)) (s : State) : (msgHold start stop h s).Keeps s :=
  onWindow_keeps (fun s b => State.endMark_setBayLights s b _) start stop s

theorem msgIndicatorHold_keeps (start stop code : Byte) (s : State) :
    (msgIndicatorHold start stop code s).Keeps s := by
  unfold msgIndicatorHold
  split
  · exact msgHold_keeps start stop _ s
  · split
    · exact msgHold_keeps start stop _ s
    · exact refuse_keeps _ s

theorem msgDriveTemperature_keeps (first : Byte) (v0 v1 v2 : BitVec 16) (s : State) :
    (msgDriveTemperature first v0 v1 v2 s).Keeps s := by
  refine onNamedBay_keeps (fun _ => ?_) first
  show (event _ s).endMark = s.endMark
  refine event_endMark (fun w => ?_) s
  simp only [takeReport_endMark]

theorem msgTableWindow_keeps (table start stop : Byte) (s : State) : (msgTableWindow table start stop s).Keeps s := by
  unfold msgTableWindow
  split <;> rfl

theorem msgTablePut_keeps (index : Byte) (entry : List Byte) (s : State) : (msgTablePut index entry s).Keeps s := by
  unfold msgTablePut
  split
  · exact refuse_keeps _ s
  · split
    · rfl
    · split
      · rfl
      · rename_i clamped f hp
        exact event_endMark (putEntry_keepsMark _ _ entry s clamped f hp) s

theorem msgTableGet_keeps (index : Byte) (s : State) : (msgTableGet index s).Keeps s := by
  unfold msgTableGet
  split
  · exact refuse_keeps _ s
  · split <;> rfl

theorem msgCurveActivate_keeps (zone : Byte) (s : State) : (msgCurveActivate zone s).Keeps s := by
  unfold msgCurveActivate
  split
  · exact refuse_keeps _ s
  · split
    · exact accept_keeps (by simp only [State.endMark, activateCurve])
    · exact refuse_keeps _ s

theorem msgPowerRead_keeps (page : Byte) (s : State) : (msgPowerRead page s).Keeps s := by
  unfold msgPowerRead
  split
  · exact report_keeps _ s
  · exact report_keeps _ s
  · exact refuse_keeps _ s

theorem msgQueueRead_keeps (offset : Byte) (s : State) : (msgQueueRead offset s).Keeps s := by
  unfold msgQueueRead
  split
  · exact refuse_keeps _ s
  · exact report_keeps _ s

theorem msgFanRead_keeps (fan : Byte) (s : State) : (msgFanRead fan s).Keeps s := by
  unfold msgFanRead
  split
  · exact report_keeps _ s
  · exact refuse_keeps _ s

theorem msgSensorRead_keeps (channel : Byte) (s : State) : (msgSensorRead channel s).Keeps s := by
  unfold msgSensorRead
  split
  · exact report_keeps _ s
  · exact refuse_keeps _ s

theorem msgZoneRead_keeps (zone : Byte) (s : State) : (msgZoneRead zone s).Keeps s := by
  unfold msgZoneRead
  split
  · exact refuse_keeps _ s
  · exact report_keeps _ s

/-- A full reset releases the part and has no frame end to take (R185, R188). -/
theorem fullReset_frameTaken (cause : ResetCause) (s : State) : (fullReset cause s).FrameTaken := ⟨rfl, rfl⟩

/-- A PART RESET of any scope leaves a taken frame end taken (R182). -/
theorem partReset_frameTaken (scope : Byte) {s : State} (hs : s.FrameTaken) :
    ((partReset scope).2 s).st.FrameTaken := by
  unfold partReset
  split
  · exact hs.of_endMark (accept_keeps (resetLoop_endMark s))
  · exact hs.of_endMark (accept_keeps (resetTables_endMark s))
  · exact fullReset_frameTaken _ s
  · exact hs.of_endMark (refuse_keeps _ s)

/-- The execution of any request leaves a taken frame end taken. -/
theorem requestOf_frameTaken (kind : Byte) (args : List Byte) {s : State} (hs : s.FrameTaken) :
    ((requestOf kind args).2 s).st.FrameTaken := by
  have kept : ∀ {a : Answer}, a.Keeps s → a.st.FrameTaken := fun h => hs.of_endMark h
  unfold requestOf
  dsimp only
  split
  · exact kept rfl
  · exact kept (msgBayRead_keeps _ s)
  · exact kept (msgBayPower_keeps _ _ s)
  · exact kept (msgBayReset_keeps _ s)
  · exact kept (msgBayClass_keeps _ _ s)
  · exact kept (msgAttentionClear_keeps _ _ _ s)
  · exact kept (msgAttentionMask_keeps _ _ _ _ s)
  · exact kept (msgIndicatorHold_keeps _ _ _ s)
  · exact kept rfl
  · exact kept (msgDriveTemperature_keeps _ _ _ _ s)
  · exact kept (msgTableWindow_keeps _ _ _ s)
  · exact kept (msgTablePut_keeps _ _ s)
  · exact kept (msgTableGet_keeps _ s)
  · exact kept (msgCurveActivate_keeps _ s)
  · exact kept (msgPowerRead_keeps _ s)
  · exact kept (msgQueueRead_keeps _ s)
  · exact kept (msgFanRead_keeps _ s)
  · exact kept (msgSensorRead_keeps _ s)
  · exact kept (msgZoneRead_keeps _ s)
  · exact partReset_frameTaken _ hs
  · exact kept (refuse_keeps _ s)

/-! ### The end of a frame (R160, R163) -/

theorem handCell_frameTaken (cell : List Byte) {s : State} (hs : s.FrameTaken) : (handCell cell s).FrameTaken :=
  deliver_kept (P := State.FrameTaken) (fun _ h => h) (fun _ _ h => h) (fun _ h => requestOf_frameTaken _ _ h) hs

theorem placedEnd_frameTaken {s : State} (hs : s.FrameTaken) : (placedEnd s).FrameTaken := by
  have released : (releaseReply s).FrameTaken := by
    unfold releaseReply
    split <;> exact hs
  have requested : (applyRequests (releaseReply s)).FrameTaken :=
    released.of_endMark (State.endMark_of_loop_rst (applyRequests_loop_rst _))
  unfold placedEnd executeCell
  split
  · exact handCell_frameTaken _ requested
  · exact requested

theorem latchPosition_frameTaken (flags hop : Byte) {s : State} (hs : s.FrameTaken) :
    (latchPosition flags hop s).FrameTaken := by
  unfold latchPosition
  dsimp only
  repeat' split
  all_goals exact hs

/-- A good frame end takes the end and marks no other (R160). -/
theorem goodEnd_frameTaken {s : State} (h : s.inReset = false) : (goodEnd s).FrameTaken := by
  have taken : { s with loop := { s.loop with frameEnd := none } }.FrameTaken := ⟨h, rfl⟩
  have timed : ∀ {t : State}, t.FrameTaken → (restartTimer t).FrameTaken := fun ht => ht
  unfold goodEnd
  dsimp only
  split
  · split
    · exact placedEnd_frameTaken taken
    · exact latchPosition_frameTaken _ _ (timed (placedEnd_frameTaken taken))
  · exact latchPosition_frameTaken _ _ (timed taken)

theorem takeFrameEnd_frameTaken {s : State} (h : s.inReset = false) : (takeFrameEnd s).FrameTaken := by
  unfold takeFrameEnd
  split
  · exact goodEnd_frameTaken h
  · exact ⟨h, rfl⟩
  · rename_i hf
    exact ⟨h, hf⟩

end Sys2Proof.Machine
end

section
/-! PROOFS. TIMEBASE_TICK (R1): the events left over are taken as their own rows would take them, and then the pins, the
durations and the lights move on. -/

namespace Sys2Proof.Machine

open Sys2Proof.Safety

/-! ### Rows run one after another -/

/-- The state after a command, a stop leaving it as it was. -/
def runCommand (s : State) (c : Instr) : State :=
  match exec c s with
  | .next t => t
  | .fault _ => s
  | .refused _ => s

theorem runCommand_next {s t : State} {c : Instr} (h : exec c s = .next t) : runCommand s c = t := by
  simp only [runCommand, h]

/-- The rows of a list, run one after another on a part that is not held, come to the change k, and do not hold it. -/
def RowsCome (l : List Instr) (k : State → State) : Prop :=
  ∀ s : State, s.inReset = false → l.foldl runCommand s = k s ∧ (k s).inReset = false

theorem RowsCome.append {l m : List Instr} {k j : State → State} (hl : RowsCome l k) (hm : RowsCome m j) :
    RowsCome (l ++ m) fun s => j (k s) := by
  intro s hs
  obtain ⟨hk, hr⟩ := hl s hs
  rw [List.foldl_append, hk]
  exact hm (k s) hr

/-- A change of the part as a whole, where it is due. -/
def takenIf (due : State → Bool) (change : State → State) (s : State) : State := if due s then change s else s

/-- A row of the part as a whole comes to its change where it is due. -/
theorem rowsCome_live {c : Instr} {due : State → Bool} {change : State → State}
    (hc : ∀ s, exec c s = live s (takenIf due change)) (hk : ∀ s, (change s).endMark = s.endMark) :
    RowsCome [c] (takenIf due change) := by
  intro s hs
  refine ⟨runCommand_next ((hc s).trans (live_next hs _)), ?_⟩
  unfold takenIf
  split
  · exact (State.inReset_of_endMark (hk s)).trans hs
  · exact hs

/-- One row per bay, in ascending number. -/
def rowPerBay (c : Nat → Instr) : List Instr := allBays.map fun b => c b.val

/-- The rows of all bays come to a sweep over the populated bays at which the event is due. -/
theorem rowsCome_perBay {c : Nat → Instr} {due : State → BayIx → Bool} {change : BayIx → State → State}
    (hc : ∀ (b : BayIx) (s : State), exec (c b.val) s = onBay b.val s (whenDue due change))
    (hk : ∀ (b : BayIx) (s : State), (change b s).endMark = s.endMark) :
    RowsCome (rowPerBay c) (forBays due (whenDue due change)) := by
  have kept : ∀ (s : State) (b : BayIx), s.inReset = false → s.populated b = true → due s b = true →
      (whenDue due change b s).inReset = false := fun s b hs _ hd => by
    rw [whenDue_due hd, State.inReset_of_endMark (hk b s), hs]
  have one : ∀ (s : State) (b : BayIx), s.inReset = false →
      runCommand s (c b.val) = if s.populated b && due s b then whenDue due change b s else s := fun s b hs => by
    cases hp : s.populated b with
    | false => exact runCommand_next ((hc b s).trans (onBay_absent hp _))
    | true =>
      rw [runCommand_next ((hc b s).trans (onBay_next ⟨hs, hp⟩ _))]
      cases hd : due s b with
      | false => exact whenDue_notDue hd change
      | true => rfl
  have sweep : ∀ (l : List BayIx) (s : State), s.inReset = false →
      (l.map fun b => c b.val).foldl runCommand s =
        l.foldl (fun s b => if s.populated b && due s b then whenDue due change b s else s) s := by
    intro l
    induction l with
    | nil => exact fun _ _ => rfl
    | cons b l ih =>
      intro s hs
      rw [List.map_cons, List.foldl_cons, List.foldl_cons, one s b hs]
      refine ih _ ?_
      split
      · rename_i hb
        rw [Bool.and_eq_true] at hb
        exact kept s b hs hb.1 hb.2
      · exact hs
  exact fun s hs => ⟨sweep allBays s hs, forBays_kept (P := (·.inReset = false)) kept hs⟩

/-! ### The rows that a tick takes for its sender (log 2) -/

/-- The two rows of a frame end come to its taking: the end that one takes leaves none for the other. -/
theorem rowsCome_frameEnd : RowsCome [.goodFrameEnd, .badCheckFrameEnd] takeFrameEnd := by
  intro s hs
  have good : ∀ t : State, t.inReset = false →
      runCommand t .goodFrameEnd = if t.loop.frameEnd = some true then goodEnd t else t :=
    fun t ht => runCommand_next (live_next ht _)
  have bad : ∀ t : State, t.inReset = false →
      runCommand t .badCheckFrameEnd = if t.loop.frameEnd = some false then badEnd t else t :=
    fun t ht => runCommand_next (live_next ht _)
  refine ⟨?_, (takeFrameEnd_frameTaken hs).1⟩
  rw [List.foldl_cons, List.foldl_cons, List.foldl_nil, good s hs, takeFrameEnd]
  rcases hf : s.loop.frameEnd with _ | _ | _
  · rw [if_neg (by simp), bad s hs, hf, if_neg (by simp)]
  · rw [if_neg (by simp), bad s hs, if_pos hf]
  · obtain ⟨hr, hn⟩ := goodEnd_frameTaken hs
    rw [if_pos rfl, bad _ hr, hn, if_neg (by simp)]

/-- What a tick takes before the expiries: the frame end and the events of the scan. -/
def scanEvents (s : State) : State :=
  forBays edgeDue takeEdge <| forBays stretchDue takeStretch <| forBays switchFaultDue takeSwitchFault <|
    forBays powerGoodLostDue takePowerGoodLost <| forBays powerGoodSeenDue takePowerGoodSeen <|
    forBays presenceLossDue takePresenceLoss <| forBays presenceActiveDue takePresenceActive <| takeFrameEnd s

/-- The stagger boundary, the cooling update and the end of a conversion slot. -/
def scheduleEvents (s : State) : State :=
  takenIf (·.scan.slotDue) takeConversion <| takenIf coolingDue takeCooling <| takenIf boundaryDue takeBoundary s

/-- What a tick takes after the expiries, but for a late resolution of the lights. -/
def timerEvents (s : State) : State :=
  takenIf loopTimerDue takeLoopTimer <| forBays staleDue takeStale <| scheduleEvents <|
    forBays resetHoldDue takeResetHold <| forBays pgDeadlineDue takePgDeadline <|
    forBays surgeDeadlineDue takeSurgeDeadline s

theorem takeBoundary_endMark (s : State) : (takeBoundary s).endMark = s.endMark := by
  refine event_endMark (fun w => ?_) s
  simp only [State.endMark, Work.st_owe, Work.st_map]

/-- What is left of a tick, cut at the expiries. -/
theorem completeTick_eq (s : State) :
    completeTick s = takenIf (·.ind.resolutionDue) resolveLights (timerEvents (takeExpiries (scanEvents s))) := by
  unfold completeTick
  extract_lets s1 s2 s3 s4 s5 s6 s7 s8 s9 s10 s11 s12 s13 s14 s15 s16 s17
  have scan : s8 = scanEvents s := rfl
  have boundary : s13 = takenIf boundaryDue takeBoundary s12 := rfl
  have cooling : s14 = takenIf coolingDue takeCooling s13 := rfl
  have conversion : s15 = takenIf (·.scan.slotDue) takeConversion s14 := rfl
  have schedule : s15 = scheduleEvents s12 := by rw [scheduleEvents, ← boundary, ← cooling, conversion]
  have stale : s16 = forBays staleDue takeStale s15 := rfl
  have loopTimer : s17 = takenIf loopTimerDue takeLoopTimer s16 := rfl
  have timer : s17 = timerEvents s9 := by rw [timerEvents, loopTimer, stale, schedule]
  have expiries : s9 = takeExpiries s8 := rfl
  rw [← scan, ← expiries, ← timer]
  rfl

/-- The rows of a scan come to what a tick takes before the expiries. -/
theorem rowsCome_scanEvents :
    RowsCome
      ([.goodFrameEnd, .badCheckFrameEnd] ++ rowPerBay .presenceActive ++ rowPerBay .presenceLoss ++
        rowPerBay .powerGoodSeen ++ rowPerBay .powerGoodLost ++ rowPerBay .switchFault ++
        rowPerBay .activityStretchExpiry ++ rowPerBay .driveActivityEdge)
      scanEvents := by
  have active : RowsCome (rowPerBay .presenceActive) (forBays presenceActiveDue takePresenceActive) :=
    rowsCome_perBay (change := fun b => event (presenceActive b)) (fun _ _ => rfl)
      fun b => event_endMark (presenceActive_endMark b)
  have loss : RowsCome (rowPerBay .presenceLoss) (forBays presenceLossDue takePresenceLoss) :=
    rowsCome_perBay (change := fun b => event (presenceLoss b)) (fun _ _ => rfl)
      fun b => event_endMark (presenceLoss_endMark b)
  have good : RowsCome (rowPerBay .powerGoodSeen) (forBays powerGoodSeenDue takePowerGoodSeen) :=
    rowsCome_perBay (change := fun b => event (powerGoodSeen b)) (fun _ _ => rfl)
      fun b => event_endMark (powerGoodSeen_endMark b)
  have lost : RowsCome (rowPerBay .powerGoodLost) (forBays powerGoodLostDue takePowerGoodLost) :=
    rowsCome_perBay (change := fun b => event (powerGoodLost b)) (fun _ _ => rfl)
      fun b => event_endMark fun w => enterFault_endMark b _ w
  have fault : RowsCome (rowPerBay .switchFault) (forBays switchFaultDue takeSwitchFault) :=
    rowsCome_perBay (change := fun b => event (switchFault b)) (fun _ _ => rfl)
      fun b => event_endMark fun w => enterFault_endMark b _ w
  have stretch : RowsCome (rowPerBay .activityStretchExpiry) (forBays stretchDue takeStretch) :=
    rowsCome_perBay (change := fun b s => s.setBayLights b (s.bayLights b).expire) (fun _ _ => rfl)
      fun b s => State.endMark_setBayLights s b _
  have edge : RowsCome (rowPerBay .driveActivityEdge) (forBays edgeDue takeEdge) :=
    rowsCome_perBay (change := fun b s => s.setBayLights b (s.bayLights b).edge) (fun _ _ => rfl)
      fun b s => State.endMark_setBayLights s b _
  have rows := ((((((rowsCome_frameEnd.append active).append loss).append good).append lost).append fault).append
    stretch).append edge
  exact rows

theorem rowsCome_scheduleEvents : RowsCome [.staggerBoundary, .coolingUpdate, .conversionEnd] scheduleEvents := by
  have boundary : RowsCome [.staggerBoundary] (takenIf boundaryDue takeBoundary) :=
    rowsCome_live (fun _ => rfl) takeBoundary_endMark
  have cooling : RowsCome [.coolingUpdate] (takenIf coolingDue takeCooling) :=
    rowsCome_live (fun _ => rfl) (event_endMark fun w => coolingStages_endMark w.st)
  have conversion : RowsCome [.conversionEnd] (takenIf (·.scan.slotDue) takeConversion) :=
    rowsCome_live (fun _ => rfl) (event_endMark fun w => endSlot_endMark w.st)
  exact (boundary.append cooling).append conversion

/-- The rows of the deadlines, the schedules, the stale records and the loop timer come to what a tick takes after the
expiries. -/
theorem rowsCome_timerEvents :
    RowsCome
      (rowPerBay .surgeDeadline ++ rowPerBay .powerGoodDeadline ++ rowPerBay .resetHoldExpiry ++
        [.staggerBoundary, .coolingUpdate, .conversionEnd] ++ rowPerBay .temperatureStale ++ [.loopTimerExpiry])
      timerEvents := by
  have surge : RowsCome (rowPerBay .surgeDeadline) (forBays surgeDeadlineDue takeSurgeDeadline) :=
    rowsCome_perBay (change := fun b => event (surgeDeadline b)) (fun _ _ => rfl)
      fun b => event_endMark (surgeDeadline_endMark b)
  have powerGood : RowsCome (rowPerBay .powerGoodDeadline) (forBays pgDeadlineDue takePgDeadline) :=
    rowsCome_perBay (change := fun b => event (powerGoodDeadline b)) (fun _ _ => rfl)
      fun b => event_endMark (powerGoodDeadline_endMark b)
  have hold : RowsCome (rowPerBay .resetHoldExpiry) (forBays resetHoldDue takeResetHold) :=
    rowsCome_perBay (change := fun b => event (resetHoldExpiry b)) (fun _ _ => rfl)
      fun b => event_endMark fun w => Work.endMark_setBay w b _
  have stale : RowsCome (rowPerBay .temperatureStale) (forBays staleDue takeStale) :=
    rowsCome_perBay (change := fun b => event (·.map (turnStale b))) (fun _ _ => rfl)
      fun b => event_endMark fun w => turnStale_endMark b w.st
  have loopTimer : RowsCome [.loopTimerExpiry] (takenIf loopTimerDue takeLoopTimer) :=
    rowsCome_live (fun _ => rfl) fun _ => rfl
  have rows := ((((surge.append powerGood).append hold).append rowsCome_scheduleEvents).append stale).append loopTimer
  exact rows

/-! ### The expiries of a tick (R49; log 5) -/

/-- A bay that has a debounce or drain expiry due (log 5). -/
def expiryAt (s : State) (b : BayIx) : Bool := s.populated b && (debounceDue s b || drainDue s b)

/-- With no expiry due at any bay, the event of the expiries is none. -/
theorem takeExpiries_none {s : State} (h : ∀ b : BayIx, expiryAt s b = false) : takeExpiries s = s := by
  have still : ∀ l : List BayIx,
      l.foldl (fun w b => if w.st.populated b then expiry b w else w) (Work.start s) = Work.start s := by
    intro l
    induction l with
    | nil => rfl
    | cons b l ih =>
      rw [List.foldl_cons]
      split
      · rename_i hp
        have hstart : (Work.start s).st = s := rfl
        rw [hstart] at hp
        obtain ⟨hb, hd⟩ : debounceDue s b = false ∧ drainDue s b = false := by simpa [expiryAt, hp] using h b
        rw [expiry, hstart, hb, hd]
        exact ih
      · exact ih
  exact event_quiet (still allBays) (fellOrCleared_quiet rfl rfl rfl)

/-- The expiry row of a bay that has one due takes all that are due. -/
theorem expiryRow_of_due {s : State} {b : BayIx} (hs : s.inReset = false) (hb : expiryAt s b = true) :
    runCommand s (if debounceDue s b then .debounceExpiry b.val else .drainExpiry b.val) = takeExpiries s := by
  rw [expiryAt, Bool.and_eq_true, Bool.or_eq_true] at hb
  obtain ⟨hp, hdue⟩ := hb
  split
  · rename_i hd
    have hrow : exec (.debounceExpiry b.val) s = onBay b.val s (whenDue debounceDue fun _ => takeExpiries) := rfl
    exact runCommand_next (by rw [hrow, onBay_next ⟨hs, hp⟩, whenDue_due hd])
  · rename_i hd
    have hrow : exec (.drainExpiry b.val) s = onBay b.val s (whenDue drainDue fun _ => takeExpiries) := rfl
    exact runCommand_next (by rw [hrow, onBay_next ⟨hs, hp⟩, whenDue_due (hdue.resolve_left hd)])

theorem takeExpiries_inReset {s : State} (hs : s.inReset = false) : (takeExpiries s).inReset = false :=
  (State.inReset_of_endMark (takeExpiries_endMark s)).trans hs

/-! ### The scan and the count of a tick (R1, R4) -/

theorem Bay.powered_eq (x : Bay) : x.powered = decide (x.state = .surge ∨ x.state = .run) := by
  simp [Bay.powered]

theorem Bay.resetAsserted_eq (x : Bay) :
    x.resetAsserted = decide (x.state = .surge ∨ (x.state = .run ∧ x.resetHold ≠ none)) := by
  cases h : x.resetHold <;> simp [Bay.resetAsserted, h]

theorem Bay.tick_eq (x : Bay) :
    x.tick =
      { x with
        lookPg := decide (x.state = .surge ∨ x.state = .run)
        lookSf := decide (x.state = .surge ∨ x.state = .run)
        debounce := x.debounce.map fun n => n - 1
        drain := x.drain - 1
        drainDue := x.drainDue || decide (x.drain = 1)
        resetHold := x.resetHold.map fun n => n - 1 } := by
  rw [Bay.tick, Bay.powered_eq, Bool.beq_eq_decide_eq]

theorem tick_eq (pins : Pins) (l : LightsOrder) (s : State) :
    tick pins l s =
      if l = .beforeEvents ∨ (completeTick s).io.firstScan = true then resolveLights (countTick pins (completeTick s))
      else
        { countTick pins (completeTick s) with
          ind := { (countTick pins (completeTick s)).ind with resolutionDue := true } } := by
  unfold tick
  cases hf : (completeTick s).io.firstScan <;> cases l <;> simp [tickLights, hf]

/-- A tick of a part that is not held (R187). -/
theorem exec_timebaseTick {s : State} (h : s.inReset = false) (pins : Pins) (l : LightsOrder) :
    exec (.timebaseTick pins l) s = .next (tick pins l s) := by
  show execTimebaseTick pins l s = _
  simp [execTimebaseTick, h]

/-- Settles O28: the rows before the expiries, the expiry row and the rows after it come to what the tick takes first,
and the scan, the count and the lights follow. Each state of the statement is forgotten once its equation with the
model's is known, so that no comparison runs the part. -/
theorem tickCompletes : Obligations.TickCompletes := by
  intro s pins l h resolved run each a e v u counted
  have hrun : run = runCommand := rfl
  have heach : each = rowPerBay := rfl
  clear_value run each
  subst hrun heach
  obtain ⟨ha, hheld⟩ : a = scanEvents s ∧ (scanEvents s).inReset = false := rowsCome_scanEvents s h
  rw [← ha] at hheld
  have he : e = takeExpiries a := by
    unfold e
    split
    · rename_i b hf
      exact expiryRow_of_due hheld (List.find?_some (p := expiryAt a) hf)
    · rename_i hf
      exact (takeExpiries_none fun b =>
        eq_false_of_ne_true (List.find?_eq_none (p := expiryAt a).mp hf b (List.mem_finRange b))).symm
  have hv : v = timerEvents e := (rowsCome_timerEvents e (he ▸ takeExpiries_inReset hheld)).1
  have hu : u = completeTick s := by
    rw [completeTick_eq, ← ha, ← he, ← hv]
    clear_value v
    rfl
  have hcounted : counted = countTick pins u := by
    simp only [countTick, scanOutputs, Bay.tick_eq, Bay.powered_eq, Bay.resetAsserted_eq]
    rfl
  rw [exec_timebaseTick h, tick_eq, ← hu, ← hcounted]
  clear_value counted u
  rfl

end Sys2Proof.Machine
end

section
/-! PROOFS. What a step can do, said once: the elementary changes of the part, each with the guard under which the model
makes it. Every invariant is then a short case analysis over them. -/

namespace Sys2Proof.Machine

open Sys2Proof.Safety

/-! ### Entries in their ranges -/

/-- R38: the numbers of a table 2 entry. -/
abbrev ClassInRange (c : DriveClass) : Prop :=
  c.surge ≤ 2000 ∧ c.run ≤ 2000 ∧ 1 ≤ c.spinUp ∧ c.spinUp ≤ 255 ∧ 1 ≤ c.pgTimeout ∧ c.pgTimeout ≤ 255 ∧
    c.resetHold ≤ 255 ∧ c.retryLimit ≤ 3 ∧ c.warn ≤ 127 ∧ c.critical ≤ 127

/-- R105: the numbers of a table 6 entry. -/
abbrev ZoneCfgInRange (c : ZoneCfg) : Prop :=
  -80 ≤ c.holdTemp ∧ c.holdTemp ≤ 255 ∧ c.driveOffset ≤ 31 ∧ c.fallback ≤ 255

/-- R89: the numbers of a table 7 entry. -/
abbrev SensorInRange (c : SensorCfg) : Prop :=
  c.magnitude ≤ 7 ∧ c.span ≤ 65535 ∧ -128 ≤ c.intercept ∧ c.intercept ≤ 127

/-- R117: the numbers of a table 8 entry. -/
abbrev FanCfgInRange (c : FanCfg) : Prop :=
  c.fullCurrent ≤ 1000 ∧ c.minDuty ≤ 255 ∧ c.minRpm ≤ 65535 ∧ 1 ≤ c.pulses ∧ c.pulses ≤ 4

/-- R95: the value and age of a bay temperature record. -/
abbrev TempInRange (t : TempRec) : Prop := -80 ≤ t.value ∧ t.value ≤ 255 ∧ t.age ≤ 65535

/-! ### The changes of one bay's record -/

/-- The drain timer holds a bay back no longer, its mark then being d: its expiry is taken, or it does not run in a
state that waits for it (R25, R27, R28). -/
def DrainOver (x : Bay) (d : Bool) : Prop :=
  (x.drainDue = true ∧ d = false) ∨ (d = x.drainDue ∧ (x.drainRunning = true → x.state ≠ .drain ∧ x.state ≠ .fault))

/-- The retries used after an exit of FAULT: as before, none, or one more within the limit of the class (R27, R28). -/
def RetriesAllowed (classes : ClassIx → DriveClass) (x : Bay) (r : Nat) : Prop :=
  r = x.retries ∨ r = 0 ∨ (r = x.retries + 1 ∧ ∃ k, x.cls = .cls k ∧ x.retries < (classes k).retryLimit)

/-- What an event can make of a bay record x and its temperature record t, under a drive class table. -/
inductive RecordMove (classes : ClassIx → DriveClass) (x : Bay) (t : Option TempRec) : Bay → Option TempRec → Prop
  /-- Attention, carrier code, intents, expedite flag and the looks at a scan's levels: no state depends on them. -/
  | mark (attn : AttnSet) (carrier : BitVec 4) (loopIntent : LoopIntent) (mgmtIntent : MgmtIntent)
      (expedite lookPg lookSf : Bool) :
      RecordMove classes x t
        { x with
          attn := attn, carrier := carrier, loopIntent := loopIntent, mgmtIntent := mgmtIntent
          expedite := expedite, lookPg := lookPg, lookSf := lookSf }
        t
  /-- Presence is noted outside EMPTY (R10, R24). -/
  | present (h : x.state ≠ .empty) : RecordMove classes x t { x with presence := true } t
  /-- A loss of presence is noted in EMPTY. -/
  | absent (h : x.state = .empty) : RecordMove classes x t { x with presence := false } t
  /-- A loss of presence is noted in DRAIN (R24). -/
  | removed (h : x.state = .drain) : RecordMove classes x t { x with presence := false, removed := true } t
  /-- The drain expiry is taken and the bay stays (R27). -/
  | expired : RecordMove classes x t { x with drainDue := false } t
  /-- Entry to SETTLING (R10, R25). -/
  | settle (n : Nat) (d : Bool) (h : x.state = .empty ∨ x.state = .drain) (hd : DrainOver x d) :
      RecordMove classes x t (startSettling n { x with presence := true, drainDue := d }) t
  /-- Entry to EMPTY (R2, R11, R14, R25). -/
  | empty (d : Bool) (h : x.powered = false) (hd : DrainOver x d) :
      RecordMove classes x t (emptied { x with presence := false, drainDue := d }) t
  /-- Entry to IDLE with a resolved class (R8, R11, R25, R27). -/
  | idle (cls : BayClass) (d : Bool) (r : Nat) (hc : cls ≠ .unresolved)
      (h : x.state = .settling ∨ (x.state = .drain ∧ x.presence = true) ∨ x.state = .fault) (hd : DrainOver x d)
      (hr : RetriesAllowed classes x r) :
      RecordMove classes x t
        { x with
          state := .idle, cls := cls, cause := .none, debounce := none, removed := false, drainDue := d, retries := r }
        t
  /-- Entry to FAULT of a bay that is not powered (R8, R14, R26). -/
  | fault (cause : FaultCause) (cls : BayClass) (d : Bool) (r : Nat) (hc : cause ≠ .none)
      (h : x.powered = false ∧ x.state ≠ .empty)
      (hs : x.state = .drain → x.presence = true ∧ x.removed = false)
      (hd : d = true → x.drainDue = true) (hr : RetriesAllowed classes x r) :
      RecordMove classes x t (faulted cause { x with cls := cls, drainDue := d, retries := r }) t
  /-- Entry to QUEUED (R14). -/
  | queue (k : ClassIx) (h : x.state = .idle) (hc : x.cls = .cls k) : RecordMove classes x t { x with state := .queued } t
  /-- Withdrawal from the queue to IDLE (R15, R31). -/
  | unqueue (cls : BayClass) (h : x.state = .queued) (hc : cls = x.cls ∨ cls = .blank) :
      RecordMove classes x t { x with state := .idle, cls := cls } t
  /-- A class resolved again in place (R31). -/
  | reclass (cls : BayClass) (hc : cls ≠ .unresolved) (h : x.state = .idle ∨ (x.state = .queued ∧ cls ≠ .blank)) :
      RecordMove classes x t { x with cls := cls } t
  /-- Admission (R16). -/
  | spinUp (p : Spin) (k : ClassIx) (h : x.state = .queued) (hc : x.cls = .cls k) :
      RecordMove classes x t { x with state := .surge, spin := some p, lookPg := false, lookSf := false } t
  /-- The fields of a spin-up under way change (R17). -/
  | spin (p p' : Spin) (h : x.spin = some p) : RecordMove classes x t { x with spin := some p' } t
  /-- Entry to RUN (R20). -/
  | run (hold : Option Nat) (h : x.state = .surge) :
      RecordMove classes x t { x with state := .run, spin := none, resetHold := hold } t
  /-- The reset hold timer starts, restarts or goes (R20, R21). -/
  | hold (hold : Option Nat) (h : x.state = .run) : RecordMove classes x t { x with resetHold := hold } t
  /-- Power removal into DRAIN (R19, R23). -/
  | drain (n : Nat) (removed presence : Bool) (h : x.powered = true) :
      RecordMove classes x t { unpowered n x with state := .drain, removed := removed, presence := presence } none
  /-- Power removal into FAULT (R23, R26). -/
  | cut (n : Nat) (cause : FaultCause) (h : x.powered = true) (hc : cause ≠ .none) :
      RecordMove classes x t (faulted cause (unpowered n x)) none
  /-- FAULT left for DRAIN while the drain timer runs (R28). -/
  | clear (removed presence : Bool) (h : x.state = .fault) :
      RecordMove classes x t
        { x with state := .drain, cause := .none, retries := 0, removed := removed, presence := presence } t
  /-- A drive temperature is stored in RUN (R97). -/
  | store (r : TempRec) (h : x.state = .run) (hr : TempInRange r) : RecordMove classes x t x (some r)
  /-- A temperature record is judged again (R99 to R101). -/
  | judge (r : TempRec) (hot stale : Bool) (h : t = some r) :
      RecordMove classes x t x (some { r with hot := hot, stale := stale })

/-- A bay that a command can name: populated, or one whose request was captured in the frame (R3, R159). -/
def Named (s : State) (b : BayIx) : Prop := s.populated b = true ∨ ∃ q ∈ s.loop.frame.requests, q.1 = b

/-- A bay whose record an event can change: one that a command can name, a QUEUED one, or one with a temperature. -/
def Concerned (s : State) (b : BayIx) : Prop :=
  Named s b ∨ (s.bay b).state = .queued ∨ (s.temp b).isSome = true

/-! ### The changes of the part -/

/-- One elementary change of the part. -/
inductive Change (s : State) : State → Prop
  | bay (b : BayIx) (x : Bay) (t : Option TempRec) (hb : Concerned s b) (h : RecordMove s.driveClass (s.bay b) (s.temp b) x t) :
      Change s ((s.setBay b x).setTemp b t)
  | bayLights (b : BayIx) (x : BayLights) (hb : Named s b) : Change s (s.setBayLights b x)
  | bayTable (cfg : Vector BayCfg 24) (h : ∀ b, slotInRange (cfg.get b).slot = true) :
      Change s { s with sup := { s.sup with cfg := cfg } }
  | bayEntry (b : BayIx) (c : BayCfg) (h : slotInRange (s.bayCfg b).slot = true → slotInRange c.slot = true) :
      Change s (s.setBayCfg b c)
  | carriers (m : Vector CarrierEntry 16) : Change s { s with sup := { s.sup with carrierMap := m } }
  | enable (e : Bool) : Change s { s with sup := { s.sup with attentionEnable := e } }
  | timing (d r : Nat) (hd : 1 ≤ d ∧ d ≤ 255) (hr : 100 ≤ r ∧ r ≤ 5000) :
      Change s { s with sup := { s.sup with debounceSetting := d, drainSetting := r } }
  | scheduler (x : Scheduler) (h : x.classes = s.sched.classes) : Change s { s with sched := x }
  | classEntry (c : ClassIx) (x : DriveClass) (h : ClassInRange x) :
      Change s { s with sched := { s.sched with classes := s.sched.classes.set c x } }
  | classTable (cs : Vector DriveClass 8) (h : ∀ c, ClassInRange (cs.get c)) :
      Change s { s with sched := { s.sched with classes := cs } }
  | power (c g m : Nat) (h : c ≤ 60000 ∧ g ≤ 2000 ∧ m ≤ 2000) :
      Change s { s with acct := { s.acct with ceiling := c, guardBand := g, margin := m } }
  | reserve (n : Nat) : Change s { s with acct := { s.acct with fanReserve := n } }
  | judged (m : Int) : Change s { s with acct := s.acct.judge m }
  | latched (ch : ChannelIx) (raw : Nat) (h : raw ≤ 4095) :
      Change s (s.setChannel ch (convert ch (s.sensor ch) raw))
  | unread (ch : ChannelIx) : Change s (s.setChannel ch { s.channel ch with valid := false })
  | sensorEntry (ch : ChannelIx) (c : SensorCfg) (h : SensorInRange c) :
      Change s { s with scan := { s.scan with sensors := s.scan.sensors.set ch c } }
  | scanning (p : Option ChannelIx) (c : Option Conversion) (d : Bool) :
      Change s { s with scan := { s.scan with pointer := p, converting := c, slotDue := d } }
  | staleness (n : Nat) (h : 1 ≤ n ∧ n ≤ 255) : Change s { s with scan := { s.scan with staleness := n } }
  | pacing (p u d : Nat) (h : 200 ≤ p ∧ p ≤ 5000 ∧ 1 ≤ u ∧ u ≤ 255 ∧ 1 ≤ d ∧ d ≤ 255) :
      Change s { s with cool := { s.cool with period := p, upStep := u, downStep := d } }
  | cooled (zs : Vector Zone 4) (fs : Vector Fan 8) (e l : Nat) :
      Change s { s with cool := { s.cool with zones := zs, fans := fs, periodEnd := e, periodLength := l } }
  | fanEntry (f : FanIx) (c : FanCfg) (h : FanCfgInRange c) :
      Change s { s with cool := { s.cool with fanCfg := s.cool.fanCfg.set f c } }
  | fanTable (cs : Vector FanCfg 8) (h : ∀ f, FanCfgInRange (cs.get f)) :
      Change s { s with cool := { s.cool with fanCfg := cs } }
  | zoneEntry (z : ZoneIx) (c : ZoneCfg) (h : ZoneCfgInRange c) :
      Change s { s with cool := { s.cool with zoneCfg := s.cool.zoneCfg.set z c } }
  | zoneTable (cs : Vector ZoneCfg 4) (h : ∀ z, ZoneCfgInRange (cs.get z)) :
      Change s { s with cool := { s.cool with zoneCfg := cs } }
  | point (i : Fin 24) (p : Point) (h : PointInRange p) :
      Change s { s with cool := { s.cool with pendingCurves := s.cool.pendingCurves.set i p } }
  | points (ps : Vector Point 24) (h : ∀ i, PointInRange (ps.get i)) :
      Change s { s with cool := { s.cool with pendingCurves := ps } }
  | curves (ps : Vector Point 24)
      (h : ∀ i, ps.get i = s.cool.pendingCurves.get i ∨ ps.get i = s.cool.activeCurves.get i) :
      Change s { s with cool := { s.cool with activeCurves := ps } }
  | display (p : Vector Patterns 32) (r : Vector Rule 16) (due : Bool) :
      Change s { s with ind := { s.ind with patterns := p, rules := r, resolutionDue := due } }
  | brightness (n : Nat) (h : n ≤ 15) : Change s { s with ind := { s.ind with brightness := n } }
  | releases (xs : Vector BayLights 24) (h : ∀ b, xs.get b = { s.bayLights b with hold := none }) :
      Change s { s with ind := { s.ind with bays := xs } }
  | epoch : Change s { s with ind := { s.ind with epoch := 0 } }
  | resolved (l : Vector Levels 24) (e : Nat) (due : Bool) (hl : ∀ b, l.get b = bayLevels s b) (he : e ≤ 1999) :
      Change s { s with ind := { s.ind with levels := l, epoch := e, resolutionDue := due } }
  | loop (x : LoopEngine)
      (h : x.slotMap = s.loop.slotMap ∧ x.frame = s.loop.frame ∧ x.timeout = s.loop.timeout) :
      Change s { s with loop := x }
  | mapped (m : Vector (Option Nat) 24) (c : Bool) (h : ∀ b, s.populated b = false → m.get b = none) :
      Change s { s with loop := { s.loop with slotMap := m, mapConflict := c } }
  | frame (f : Frame) (h : f.map = s.loop.frame.map ∧ f.requests = s.loop.frame.requests) :
      Change s { s with loop := { s.loop with frame := f } }
  | noFrame (f : Frame) (h : (∀ b, f.map.get b = none) ∧ f.requests = []) :
      Change s { s with loop := { s.loop with frame := f } }
  | fixed (m : Vector (Option Nat) 24) (h : ∀ b, m.get b = s.loop.slotMap.get b ∨ m.get b = none) :
      Change s { s with loop := { s.loop with frame := { s.loop.frame with map := m } } }
  | captured (b : BayIx) (q : Byte) (h : s.loop.frame.map.get b ≠ none) :
      Change s
        { s with
          loop := { s.loop with frame := { s.loop.frame with requests := s.loop.frame.requests ++ [(b, q)] } } }
  | timeout (n : Nat) (h : 1 ≤ n ∧ n ≤ 255) : Change s { s with loop := { s.loop with timeout := n } }
  | window (w : Option Window) : Change s { s with window := w }
  | pins (x : PinUnit) : Change s { s with io := x }
  | triggers (x : ResetUnit) (h : x.straps = s.rst.straps) : Change s { s with rst := x }
  | counted (now : Nat) (io : PinUnit) (due : Bool) (timer : Nat) (bs : Vector Bay 24)
      (ts : Vector (Option TempRec) 24) (ls : Vector BayLights 24) (hb : ∀ b, bs.get b = (s.bay b).tick)
      (ht : ∀ b, ts.get b = (s.temp b).map TempRec.tick)
      (hl : ∀ b, ∃ e, ls.get b = (s.bayLights b).tick e ∧ (s.populated b = false → e = false)) :
      Change s
        { s with
          time := { now := now }, io := io, sup := { s.sup with bays := bs }
          scan := { s.scan with slotDue := due, temps := ts }, ind := { s.ind with bays := ls }
          loop := { s.loop with timer := timer } }
  | reset (cause : ResetCause) : Change s (fullReset cause s)
  | pending (l : List Instr) : Change s { s with pending := l }

/-- Any number of elementary changes. -/
abbrev Changes : State → State → Prop := Relation.ReflTransGen Change

/-- A property kept by every elementary change is kept by any number of them. -/
theorem Changes.kept {P : State → Prop} (h : ∀ s t, Change s t → P s → P t) {s t : State} (c : Changes s t)
    (hs : P s) : P t := by
  induction c with
  | refl => exact hs
  | tail _ d ih => exact h _ _ d ih

theorem Change.changes {s t : State} (h : Change s t) : Changes s t := .single h

/-- A change of a bay's record that leaves its temperature record. -/
theorem Changes.setBay {s : State} {b : BayIx} {x : Bay} (hb : Concerned s b)
    (h : RecordMove s.driveClass (s.bay b) (s.temp b) x (s.temp b)) : Changes s (s.setBay b x) := by
  have c := Change.bay b x _ hb h
  rw [← State.temp_setBay s b x b, State.setTemp_self] at c
  exact c.changes

theorem Named.concerned {s : State} {b : BayIx} (h : Named s b) : Concerned s b := .inl h

/-! ### The changes of the part as the model makes them -/

theorem resolveMap_changes (s : State) : Changes s (resolveMap s) :=
  (Change.mapped _ _ fun b hb => by simp [Vector.get_eq_getElem, resolvedSlot, outranked, claim, hb]).changes

theorem resolveLights_changes (s : State) : Changes s (resolveLights s) :=
  (Change.resolved _ _ false (fun b => by simp [Vector.get_eq_getElem]) (by omega)).changes

theorem activateCurve_changes (z : ZoneIx) (s : State) : Changes s (activateCurve z s) := by
  refine (Change.curves _ fun i => ?_).changes
  simp only [Vector.get_eq_getElem, Vector.getElem_ofFn]
  split
  · exact .inl rfl
  · exact .inr rfl

theorem get_noSlots (b : BayIx) : noSlots.get b = none := by
  simp [noSlots, Vector.get_eq_getElem]

theorem emptyFrame_changes (s : State) : Changes s { s with loop := { s.loop with frame := emptyFrame } } :=
  (Change.noFrame emptyFrame ⟨get_noSlots, rfl⟩).changes

theorem fixMap_changes (s : State) : Changes s (fixMap s) := by
  refine (Change.fixed _ fun b => ?_).changes
  split
  · exact .inl rfl
  · exact .inr (get_noSlots b)

theorem captureRequest_changes (slot : Nat) (q : Byte) (s : State) : Changes s (captureRequest slot q s) := by
  unfold captureRequest
  split
  · rename_i b hb
    have hm := List.find?_some hb
    rw [decide_eq_true_iff] at hm
    exact (Change.captured b q (by simp [hm])).changes
  · exact .refl

theorem countTick_changes (pins : Pins) (s : State) : Changes s (countTick pins s) := by
  refine (Change.counted _ _ _ _ _ _ _ (fun b => ?_) (fun b => ?_) fun b => ⟨activityEdge s pins b, ?_, fun hb => ?_⟩).changes
  · simp [Vector.get_eq_getElem]
  · simp [Vector.get_eq_getElem]
  · simp [Vector.get_eq_getElem]
  · simp [activityEdge, hb]

/-! ### The admission attempt and the end of an event -/

theorem attempt_changes (s : State) : Changes s (attempt s) := by
  refine attempt_kept (P := Changes s) (fun t b c ht _ _ hc hq _ _ => ?_) .refl
  obtain ⟨k, hk⟩ : ∃ k, (t.bay b).cls = .cls k := by
    unfold State.classOf at hc
    split at hc
    · exact ⟨_, ‹_›⟩
    · cases hc
    · cases hc
  have spun : Changes t (t.setBay b (admitted t c (t.bay b))) := .setBay (.inr (.inl hq)) (.spinUp _ k hq hk)
  exact ht.trans (spun.tail (.scheduler _ rfl))

theorem event_changes {f : Work → Work} {s : State} (h : Changes (Work.start s).st (f (Work.start s)).st) :
    Changes s (event f s) := by
  refine event_kept (P := Changes s) (fun t ht => ht.trans (attempt_changes t)) ?_
  exact h.tail (.scheduler _ rfl)

/-- A fold goes where each of its calls goes. -/
theorem foldl_changes {α : Type} {k : State → α → State} (h : ∀ s x, Changes s (k s x)) (l : List α) (s : State) :
    Changes s (l.foldl k s) := by
  induction l generalizing s with
  | nil => exact .refl
  | cons x l ih => exact (h s x).trans (ih _)

theorem Named.setBay {s : State} {b c : BayIx} (x : Bay) (h : Named s b) : Named (s.setBay c x) b := h

/-- One more move of a bay's records after others of its bay record. -/
theorem Changes.bay_again {s : State} {b : BayIx} {y x : Bay} {t : Option TempRec} (hb : Named s b)
    (h : Changes s (s.setBay b y)) (k : RecordMove s.driveClass y (s.temp b) x t) :
    Changes s ((s.setBay b x).setTemp b t) := by
  rw [← State.setBay_setBay s b y x]
  refine h.tail (Change.bay b x t (hb.setBay y).concerned ?_)
  rwa [State.bay_setBay_same]

/-- The same for a move that leaves the temperature record. -/
theorem Changes.setBay_again {s : State} {b : BayIx} {y x : Bay} (hb : Named s b) (h : Changes s (s.setBay b y))
    (k : RecordMove s.driveClass y (s.temp b) x (s.temp b)) : Changes s (s.setBay b x) := by
  rw [← State.setBay_setBay s b y x]
  refine h.trans (Changes.setBay (hb.setBay y).concerned ?_)
  rwa [State.bay_setBay_same]

/-- A record that differs in its loose fields alone. -/
theorem RecordMove.of_mark {classes : ClassIx → DriveClass} {x y : Bay} {t : Option TempRec}
    (h : y = { x with
      attn := y.attn, carrier := y.carrier, loopIntent := y.loopIntent, mgmtIntent := y.mgmtIntent
      expedite := y.expedite, lookPg := y.lookPg, lookSf := y.lookSf }) : RecordMove classes x t y t := by
  rw [h]
  exact .mark ..

theorem Changes.mark {s : State} {b : BayIx} {x : Bay} (hb : Named s b)
    (h : x = { s.bay b with
      attn := x.attn, carrier := x.carrier, loopIntent := x.loopIntent, mgmtIntent := x.mgmtIntent
      expedite := x.expedite, lookPg := x.lookPg, lookSf := x.lookSf }) : Changes s (s.setBay b x) :=
  .setBay hb.concerned (.of_mark h)

end Sys2Proof.Machine
end

section
/-! PROOFS. The transitions and events of a bay (chapter 1), in the elementary changes they are made of. -/

namespace Sys2Proof.Machine

open Sys2Proof.Safety

@[simp] theorem Work.st_setBay (w : Work) (b : BayIx) (x : Bay) : (w.setBay b x).st = w.st.setBay b x := rfl
@[simp] theorem Work.st_enterHead (w : Work) (b : BayIx) : (w.enterHead b).st = w.st := rfl
@[simp] theorem Work.st_enterTail (w : Work) (b : BayIx) : (w.enterTail b).st = w.st := rfl
@[simp] theorem Work.st_start (s : State) : (Work.start s).st = s := rfl

theorem Work.withdraw_changes (w : Work) (b : BayIx) : Changes w.st (w.withdraw b).st :=
  (Change.scheduler { w.st.sched with queue := w.st.sched.queue.filter (· ≠ b) } rfl).changes

theorem Bay.powered_iff (x : Bay) : x.powered = true ↔ x.state = .surge ∨ x.state = .run := by
  simp [Bay.powered_eq]

theorem Bay.unpowered_iff (x : Bay) : x.powered = false ↔ x.state ≠ .surge ∧ x.state ≠ .run := by
  simp [Bay.powered_eq]

/-- Power removal into DRAIN of a powered bay (R23). -/
theorem removePower_changes {b : BayIx} {w : Work} (hb : Named w.st b) (h : (w.st.bay b).powered = true) :
    Changes w.st (removePower b .drain w).st := by
  rw [removePower_eq]
  exact (Change.bay b _ none hb.concerned (.drain w.st.sup.drainSetting (w.st.bay b).removed _ h)).changes

/-- Entry to FAULT of a powered bay (R23, R26). -/
theorem enterFault_changes_powered {b : BayIx} {c : FaultCause} {w : Work} (hb : Named w.st b)
    (h : (w.st.bay b).powered = true) (hc : c ≠ .none) : Changes w.st (enterFault b c w).st := by
  have e : (enterFault b c w).st =
      (w.st.setBay b (faulted c (unpowered w.st.sup.drainSetting (w.st.bay b)))).setTemp b none := by
    rw [enterFault_powered h, removePower_eq]
    simp only [Work.st_setBay, Work.st_map, State.bay_setTemp, State.bay_setBay_same]
    exact congrArg (State.setTemp · b none) (State.setBay_setBay w.st b _ _)
  rw [e]
  exact (Change.bay b _ none hb.concerned (.cut _ c h hc)).changes

/-- Entry to FAULT of an unpowered bay with a new class, in IDLE or QUEUED (R14, R31). -/
theorem enterFault_changes_waiting {b : BayIx} {c : FaultCause} {w : Work} {s : State} {x : Bay} {cls : BayClass}
    (hb : Named s b)
    (h : (s.bay b).state = .idle ∨ (s.bay b).state = .queued) (hc : c ≠ .none) (hw : w.st = s.setBay b x)
    (hx : x = { s.bay b with cls := cls }) :
    Changes s (enterFault b c w).st := by
  have hp : (w.st.bay b).powered = false := by
    rw [hw, hx, State.bay_setBay_same, Bay.unpowered_iff]
    rcases h with h | h <;> simp [h]
  have hp' : (s.bay b).powered = false := by
    rw [Bay.unpowered_iff]
    rcases h with h | h <;> simp [h]
  rw [enterFault_unpowered hp, Work.st_setBay, hw, hx, State.bay_setBay_same, State.setBay_setBay]
  refine Changes.setBay hb.concerned
    (.fault c cls (s.bay b).drainDue (s.bay b).retries hc ⟨hp', ?_⟩ ?_ id (.inl rfl))
  · rcases h with h | h <;> simp [h]
  · rcases h with h | h <;> simp [h]

theorem actInIdle_changes {b : BayIx} {w : Work} (hb : Named w.st b) (h : (w.st.bay b).state = .idle) :
    Changes w.st (actInIdle b w).st := by
  unfold actInIdle
  split
  · exact .refl
  · exact .refl
  · rename_i k hk
    split
    · split
      · exact enterFault_changes_waiting hb (.inl h) (by simp) (State.setBay_self w.st b).symm rfl
      · have q : Changes w.st (w.st.setBay b { w.st.bay b with state := .queued }) :=
          .setBay hb.concerned (.queue k h hk)
        unfold enterQueued
        dsimp only
        split
        · exact q.setBay_again hb (.of_mark rfl)
        · exact q
    · exact .refl

/-- The evaluation of a desire goes from the evaluated flag to what the state asks for (R12, R14, R15, R19). -/
theorem evaluate_changes {b : BayIx} {w : Work} (hb : Named w.st b) : Changes w.st (evaluate b w).st := by
  unfold evaluate
  extract_lets v
  obtain ⟨hv, hn⟩ : Changes w.st v.st ∧ Named v.st b := by
    unfold v
    split
    · exact ⟨Changes.mark hb rfl, hb.setBay _⟩
    · exact ⟨.refl, hb⟩
  refine hv.trans ?_
  clear_value v
  split
  · rename_i h
    exact actInIdle_changes hn h
  · rename_i h
    split
    · split
      · exact Changes.mark hn rfl
      · exact .refl
    · have u : Changes v.st (v.setBay b { v.st.bay b with state := .idle }).st :=
        .setBay hn.concerned (.unqueue _ h (.inl rfl))
      exact u.trans (Work.withdraw_changes _ b)
  · rename_i h
    split
    · exact .refl
    · exact removePower_changes hn (by simp [Bay.powered_eq, h])
  · rename_i h
    split
    · exact .refl
    · exact removePower_changes hn (by simp [Bay.powered_eq, h])
  all_goals exact .refl

/-- A record about to leave SETTLING, DRAIN or FAULT, as the record x but for the attention, the drain mark, the retries
and the cause (R11, R25, R27, R28). -/
structure Leaving (classes : ClassIx → DriveClass) (x y : Bay) : Prop where
  record : y = { x with attn := y.attn, drainDue := y.drainDue, retries := y.retries, cause := y.cause }
  state : x.state = .settling ∨ x.state = .drain ∨ x.state = .fault
  drain : DrainOver x y.drainDue
  retries : RetriesAllowed classes x y.retries

theorem DrainOver.due {x : Bay} {d : Bool} (h : DrainOver x d) (hd : d = true) : x.drainDue = true := by
  rcases h with ⟨_, h⟩ | ⟨h, _⟩
  · simp [h] at hd
  · rw [← h, hd]

theorem Leaving.unpowered {classes : ClassIx → DriveClass} {x y : Bay} (h : Leaving classes x y) :
    x.powered = false := by
  rw [Bay.unpowered_iff]
  rcases h.state with h | h | h <;> simp [h]

theorem Leaving.not_empty {classes : ClassIx → DriveClass} {x y : Bay} (h : Leaving classes x y) :
    x.state ≠ .empty := by
  rcases h.state with h | h | h <;> simp [h]

/-- Entry to EMPTY of an unpowered bay (R2). -/
theorem Changes.emptied {s : State} {b : BayIx} (hb : Named s b) (attn : AttnSet) (d : Bool)
    (h : (s.bay b).powered = false) (hd : DrainOver (s.bay b) d) :
    Changes s (s.setBay b (emptied { s.bay b with attn := attn, presence := false, drainDue := d })) := by
  have m : Changes s (s.setBay b { s.bay b with attn := attn }) := .mark hb rfl
  exact m.setBay_again hb (.empty d h hd)

/-- Entry to EMPTY out of SETTLING, DRAIN or FAULT (R2, R25). -/
theorem enterEmpty_changes {s : State} {b : BayIx} {y : Bay} {w : Work} (hb : Named s b) (hw : w.st = s.setBay b y)
    (h : Leaving s.driveClass (s.bay b) y) (hp : y.presence = false) : Changes s (enterEmpty b w).st := by
  have c := Changes.emptied hb y.attn y.drainDue h.unpowered h.drain
  rw [enterEmpty_eq, Work.st_setBay, hw, State.bay_setBay_same, State.setBay_setBay]
  have hp' : (s.bay b).presence = false := by rwa [h.record] at hp
  rw [← hp'] at c
  rw [h.record]
  exact c

/-- Entry to IDLE, or to FAULT where the class resolves to nothing (R8, R11, R25). -/
theorem enterIdle_changes {s : State} {b : BayIx} {y : Bay} {w : Work} (hb : Named s b) (hw : w.st = s.setBay b y)
    (h : Leaving s.driveClass (s.bay b) y)
    (hd : (s.bay b).state = .drain → (s.bay b).presence = true ∧ (s.bay b).removed = false) :
    Changes s (enterIdle b w).st := by
  have m : Changes s (s.setBay b { s.bay b with attn := y.attn, carrier := (s.seen b).carrier }) := .mark hb rfl
  have idle : ∀ cls : BayClass, cls ≠ .unresolved → ∀ v : Work,
      v.st = s.setBay b
        { y with
          carrier := (s.seen b).carrier, state := .idle, cls := cls, cause := .none, debounce := none
          removed := false } →
      Changes s (evaluate b v).st := by
    intro cls hc v hv
    have hn : Named v.st b := by rw [hv]; exact hb.setBay _
    refine Relation.ReflTransGen.trans ?_ (evaluate_changes hn)
    rw [hv, h.record]
    exact m.setBay_again hb (.idle cls y.drainDue y.retries hc
      (h.state.imp_right (Or.imp_left fun k => ⟨k, (hd k).1⟩)) h.drain h.retries)
  unfold enterIdle readCarrier
  simp only [Work.st_setBay, hw, State.bay_setBay_same, State.setBay_setBay]
  split
  · have hu : (y.powered) = false := by rw [h.record]; exact h.unpowered
    rw [enterFault_unpowered (by simpa [Bay.powered] using hu)]
    simp only [Work.st_setBay, hw, State.bay_setBay_same, State.setBay_setBay]
    rw [h.record]
    exact m.setBay_again hb (.fault .unsupportedCarrier .unresolved y.drainDue y.retries (by simp)
      ⟨h.unpowered, h.not_empty⟩ hd h.drain.due h.retries)
  · refine idle .blank (by simp) _ ?_
    simp only [Work.st_setBay, hw, State.setBay_setBay, State.seen_setBay]
  · rename_i k _
    refine idle (.cls k) (by simp) _ ?_
    simp only [Work.st_setBay, hw, State.setBay_setBay, State.seen_setBay]

/-- The exit of an unpowered state by the presence (R25, R27, R28). -/
theorem leaveUnpowered_changes {s : State} {b : BayIx} {y : Bay} {w : Work} (hb : Named s b)
    (hw : w.st = s.setBay b y) (h : Leaving s.driveClass (s.bay b) y) (hs : (s.bay b).state ≠ .drain) :
    Changes s (leaveUnpowered b w).st := by
  unfold leaveUnpowered
  rw [hw, State.bay_setBay_same]
  split
  · exact enterIdle_changes hb hw h fun k => absurd k hs
  · rename_i hp
    exact enterEmpty_changes hb hw h (by simpa using hp)

/-- A class resolved again in IDLE or QUEUED (R31, R63). -/
theorem reresolve_changes {b : BayIx} {w : Work} (hb : Named w.st b) : Changes w.st (reresolve b w).st := by
  unfold reresolve
  extract_lets x
  split
  · rename_i h
    split
    · exact enterFault_changes_waiting hb (.inl h) (by simp) rfl rfl
    · exact .setBay hb.concerned (.reclass .blank (by simp) (.inl h))
    · rename_i k _
      have r : Changes w.st (w.setBay b { x with cls := .cls k }).st :=
        .setBay hb.concerned (.reclass (.cls k) (by simp) (.inl h))
      exact r.trans (evaluate_changes (hb.setBay _))
  · rename_i h
    split
    · exact (Work.withdraw_changes w b).trans
        (enterFault_changes_waiting (s := (w.withdraw b).st) hb (.inr h) (by simp) rfl rfl)
    · have r : Changes w.st (w.setBay b { x with cls := .blank, state := .idle }).st :=
        .setBay hb.concerned (.unqueue .blank h (.inr rfl))
      exact (r.trans (Work.withdraw_changes _ b)).trans (evaluate_changes hb)
    · rename_i k _
      split
      · exact (Work.withdraw_changes w b).trans
          (enterFault_changes_waiting (s := (w.withdraw b).st) hb (.inr h) (by simp) rfl rfl)
      · exact .setBay hb.concerned (.reclass (.cls k) (by simp) (.inr ⟨h, by simp⟩))
  all_goals exact .refl

/-- Entry to RUN out of SURGE (R20). -/
theorem enterRun_changes {s : State} {b : BayIx} {y : Bay} {w : Work} (hb : Named s b) (hw : w.st = s.setBay b y)
    (h : y.state = .surge) (c : Changes s (s.setBay b y)) : Changes s (enterRun b w).st := by
  unfold enterRun
  extract_lets x hold
  have hx : x = y := by simp only [x, hw, State.bay_setBay_same]
  have r : Changes s (s.setBay b { y with state := .run, spin := none, resetHold := if hold = 0 then none else some (hold * 10) }) :=
    c.setBay_again hb (.run _ h)
  rw [Work.st_setBay, hw, State.setBay_setBay, hx]
  exact r.setBay_again hb (.of_mark rfl)

/-! ### The bay events of the scan -/

theorem presenceActive_changes {b : BayIx} {w : Work} (hb : Named w.st b) : Changes w.st (presenceActive b w).st := by
  unfold presenceActive
  dsimp only
  split
  · rename_i h
    have h : (w.st.bay b).state = .empty := by simpa using h
    rw [enterSettling_eq]
    simp only [Work.st_setBay, State.bay_setBay_same, State.setBay_setBay]
    exact Changes.setBay hb.concerned
      (.settle _ (w.st.bay b).drainDue (.inl h) (.inr ⟨rfl, fun _ => by simp [h]⟩))
  · rename_i h
    exact Changes.setBay hb.concerned (.present (by simpa using h))

theorem presenceLoss_changes {b : BayIx} {w : Work} (hb : Named w.st b) : Changes w.st (presenceLoss b w).st := by
  have raised : Changes w.st (w.st.setBay b { w.st.bay b with attn := (w.st.bay b).attn.union .onlyPresence }) :=
    .mark hb rfl
  have gone : (w.st.bay b).state ≠ .surge ∧ (w.st.bay b).state ≠ .run → (w.st.bay b).state ≠ .drain →
      ((w.st.bay b).state = .fault → (w.st.bay b).drainRunning = false) → ∀ a, Changes w.st
        (w.st.setBay b (emptied { w.st.bay b with attn := a, presence := false })) := fun h hd hf a =>
    Changes.emptied hb a (w.st.bay b).drainDue ((Bay.unpowered_iff _).mpr h)
      (.inr ⟨rfl, fun hr => ⟨hd, fun e => by simp [hf e] at hr⟩⟩)
  unfold presenceLoss
  dsimp only
  simp only [Work.st_setBay, State.bay_setBay_same]
  split
  all_goals rename_i hs
  · exact Changes.setBay hb.concerned (.absent hs)
  · simp only [enterEmpty_eq, Work.st_setBay, State.bay_setBay_same, State.setBay_setBay]
    exact gone (by simp [hs]) (by simp [hs]) (by simp [hs]) _
  · simp only [enterEmpty_eq, Work.st_setBay, State.bay_setBay_same, State.setBay_setBay]
    exact gone (by simp [hs]) (by simp [hs]) (by simp [hs]) _
  · refine Relation.ReflTransGen.trans ?_ (Work.withdraw_changes _ b)
    simp only [enterEmpty_eq, Work.st_setBay, State.bay_setBay_same, State.setBay_setBay]
    exact gone (by simp [hs]) (by simp [hs]) (by simp [hs]) _
  · simp only [removePower_eq, Work.st_map, Work.st_setBay, State.bay_setBay_same, State.setBay_setBay]
    exact raised.bay_again hb (.drain w.st.sup.drainSetting true false ((Bay.powered_iff _).mpr (.inl hs)))
  · simp only [removePower_eq, Work.st_map, Work.st_setBay, State.bay_setBay_same, State.setBay_setBay]
    exact raised.bay_again hb (.drain w.st.sup.drainSetting true false ((Bay.powered_iff _).mpr (.inr hs)))
  · split
    · rename_i hr
      have c := Changes.setBay hb.concerned (.removed hs)
      rw [← hr] at c
      exact c
    · simp only [Work.st_setBay, State.setBay_setBay]
      exact raised.setBay_again hb (.removed hs)
  · split
    · simp only [Work.st_setBay, State.setBay_setBay]
      exact raised.setBay_again hb (.clear true false hs)
    · rename_i hr
      simp only [enterEmpty_eq, Work.st_setBay, State.bay_setBay_same, State.setBay_setBay]
      exact gone (by simp [hs]) (by simp [hs]) (fun _ => by simpa [Bay.drainRunning] using hr) _

/-- The power-good and switch-fault levels of a scan (R17, R18). -/
theorem powerGoodSeen_changes {b : BayIx} {w : Work} (hb : Named w.st b) (h : (w.st.bay b).state = .surge) :
    Changes w.st (powerGoodSeen b w).st := by
  unfold powerGoodSeen
  extract_lets x
  split
  · exact .refl
  · rename_i p hp
    have c : Changes w.st (w.st.setBay b { x with lookPg := false, spin := some { p with pgSeen := true } }) :=
      Changes.setBay_again (y := { x with lookPg := false }) hb (.mark hb rfl) (.spin p _ hp)
    dsimp only
    split
    · exact enterRun_changes hb rfl h c
    · exact c

/-! ### The bay timers -/

theorem debounceExpiry_changes {b : BayIx} {w : Work} (hb : Named w.st b) (h : (w.st.bay b).state = .settling) :
    Changes w.st (debounceExpiry b w).st :=
  enterIdle_changes hb rfl ⟨rfl, .inl h, .inr ⟨rfl, fun _ => by simp [h]⟩, .inl rfl⟩ (by simp [h])

theorem retryLimit_lt {s : State} {b : BayIx} {r : Nat} (h : r < retryLimit s b) :
    ∃ k, (s.bay b).cls = .cls k ∧ r < (s.driveClass k).retryLimit := by
  unfold retryLimit State.classOf at h
  cases hc : (s.bay b).cls with
  | cls k => exact ⟨k, rfl, by simpa [hc] using h⟩
  | blank => simp [hc] at h
  | unresolved => simp [hc] at h

theorem drainExpiry_changes {b : BayIx} {w : Work} (hb : Named w.st b) (h : (w.st.bay b).drainDue = true) :
    Changes w.st (drainExpiry b w).st := by
  have dr : DrainOver (w.st.bay b) false := .inl ⟨h, rfl⟩
  have expired : Changes w.st (w.st.setBay b { w.st.bay b with drainDue := false }) :=
    Changes.setBay hb.concerned .expired
  unfold drainExpiry
  dsimp only
  simp only [Work.st_setBay, State.bay_setBay_same]
  split
  · rename_i hs
    have l : Leaving w.st.driveClass (w.st.bay b) { w.st.bay b with drainDue := false } :=
      ⟨rfl, .inr (.inl hs), dr, .inl rfl⟩
    split
    · rename_i hp
      split
      · simp only [enterSettling_eq, Work.st_setBay, State.bay_setBay_same, State.setBay_setBay]
        have c := Changes.setBay hb.concerned (.settle (w.st.sup.debounceSetting * 10) false (.inr hs) dr)
        rw [← hp] at c
        exact c
      · rename_i hr
        exact enterIdle_changes hb rfl l fun _ => ⟨hp, by simpa using hr⟩
    · rename_i hp
      exact enterEmpty_changes hb rfl l (by simpa using hp)
  · rename_i hs
    split
    · rename_i hr
      rw [Bool.and_eq_true, decide_eq_true_iff] at hr
      obtain ⟨k, hk, hl⟩ := retryLimit_lt hr.2
      rw [State.bay_setBay_same] at hk
      exact leaveUnpowered_changes hb (State.setBay_setBay ..)
        ⟨rfl, .inr (.inr hs), dr, .inr (.inr ⟨rfl, k, hk, hl⟩)⟩ (by simp [hs])
    · exact expired
  all_goals exact expired

/-- The expiry of one bay, where it is due (R11, R25, R27). -/
theorem expiry_changes {b : BayIx} {w : Work} (hb : Named w.st b) : Changes w.st (expiry b w).st := by
  unfold expiry
  split
  · rename_i h
    rw [debounceDue, Bool.and_eq_true, decide_eq_true_iff] at h
    exact debounceExpiry_changes hb h.1
  · split
    · rename_i h
      exact drainExpiry_changes hb h
    · exact .refl

/-- A fold over working records goes where each of its calls goes. -/
theorem foldl_changes_work {α : Type} {k : Work → α → Work} (h : ∀ w x, Changes w.st (k w x).st) (l : List α)
    (w : Work) : Changes w.st (l.foldl k w).st := by
  induction l generalizing w with
  | nil => exact .refl
  | cons x l ih => exact (h w x).trans (ih _)

theorem takeExpiries_changes (s : State) : Changes s (takeExpiries s) := by
  refine event_changes (foldl_changes_work (fun w b => ?_) _ _)
  split
  · exact expiry_changes (.inl ‹_›)
  · exact .refl

theorem surgeDeadline_changes {b : BayIx} {w : Work} (hb : Named w.st b) (h : (w.st.bay b).state = .surge) :
    Changes w.st (surgeDeadline b w).st := by
  unfold surgeDeadline
  extract_lets x
  split
  · exact .refl
  · rename_i p hp
    split
    · exact enterRun_changes hb (State.setBay_self ..).symm h (by rw [State.setBay_self])
    · exact Changes.setBay hb.concerned (.spin p _ hp)

theorem powerGoodDeadline_changes {b : BayIx} {w : Work} (hb : Named w.st b) (h : (w.st.bay b).state = .surge) :
    Changes w.st (powerGoodDeadline b w).st := by
  unfold powerGoodDeadline
  extract_lets x
  split
  · exact .refl
  · rename_i p hp
    split
    · exact Changes.setBay hb.concerned (.spin p _ hp)
    · exact enterFault_changes_powered hb ((Bay.powered_iff _).mpr (.inl h)) (by simp)

theorem resetHoldExpiry_changes {b : BayIx} {w : Work} (hb : Named w.st b) (h : (w.st.bay b).state = .run) :
    Changes w.st (resetHoldExpiry b w).st := by
  have m : Changes w.st (w.st.setBay b ((w.st.bay b).raise .onlyResetDone)) := .mark hb rfl
  exact m.setBay_again hb (.hold none h)

/-! ### The events of one bay, where they are due -/

/-- An event that is taken where it is due goes where its changes go. -/
theorem dueEvent_changes {due : Bool} {f : Work → Work} {s : State}
    (h : due = true → Changes (Work.start s).st (f (Work.start s)).st) :
    Changes s (if due = true then event f s else s) := by
  split
  · exact event_changes (h ‹_›)
  · exact .refl

theorem takePresenceActive_changes (b : BayIx) {s : State} (hb : Named s b) : Changes s (takePresenceActive b s) :=
  dueEvent_changes fun _ => presenceActive_changes hb

theorem takePresenceLoss_changes (b : BayIx) {s : State} (hb : Named s b) : Changes s (takePresenceLoss b s) :=
  dueEvent_changes fun _ => presenceLoss_changes hb

theorem powerGoodSeenDue_surge {s : State} {b : BayIx} (h : powerGoodSeenDue s b = true) :
    (s.bay b).state = .surge := by
  simp only [powerGoodSeenDue, Bool.and_eq_true, decide_eq_true_iff] at h
  exact h.2

theorem takePowerGoodSeen_changes (b : BayIx) {s : State} (hb : Named s b) : Changes s (takePowerGoodSeen b s) :=
  dueEvent_changes fun h => powerGoodSeen_changes hb (powerGoodSeenDue_surge h)

theorem powerGoodLostDue_powered {s : State} {b : BayIx} (h : powerGoodLostDue s b = true) :
    (s.bay b).powered = true := by
  simp only [powerGoodLostDue, Bool.and_eq_true, Bool.or_eq_true, decide_eq_true_iff] at h
  exact (Bay.powered_iff _).mpr (h.2.symm.imp_left And.left)

theorem takePowerGoodLost_changes (b : BayIx) {s : State} (hb : Named s b) : Changes s (takePowerGoodLost b s) :=
  dueEvent_changes fun h =>
    enterFault_changes_powered (w := Work.start s) hb (powerGoodLostDue_powered h) (by split <;> simp)

theorem switchFaultDue_powered {s : State} {b : BayIx} (h : switchFaultDue s b = true) : (s.bay b).powered = true := by
  simp only [switchFaultDue, Bool.and_eq_true] at h
  exact h.2

theorem takeSwitchFault_changes (b : BayIx) {s : State} (hb : Named s b) : Changes s (takeSwitchFault b s) :=
  dueEvent_changes fun h =>
    enterFault_changes_powered (c := .overcurrent) (w := Work.start s) hb (switchFaultDue_powered h) (by simp)

theorem surgeDeadlineDue_surge {s : State} {b : BayIx} (h : surgeDeadlineDue s b = true) :
    (s.bay b).state = .surge := by
  rw [surgeDeadlineDue, Bool.and_eq_true, decide_eq_true_iff] at h
  exact h.1

theorem takeSurgeDeadline_changes (b : BayIx) {s : State} (hb : Named s b) : Changes s (takeSurgeDeadline b s) :=
  dueEvent_changes fun h => surgeDeadline_changes hb (surgeDeadlineDue_surge h)

theorem pgDeadlineDue_surge {s : State} {b : BayIx} (h : pgDeadlineDue s b = true) : (s.bay b).state = .surge := by
  rw [pgDeadlineDue, Bool.and_eq_true, decide_eq_true_iff] at h
  exact h.1

theorem takePgDeadline_changes (b : BayIx) {s : State} (hb : Named s b) : Changes s (takePgDeadline b s) :=
  dueEvent_changes fun h => powerGoodDeadline_changes hb (pgDeadlineDue_surge h)

theorem resetHoldDue_run {s : State} {b : BayIx} (h : resetHoldDue s b = true) : (s.bay b).state = .run := by
  rw [resetHoldDue, Bool.and_eq_true, decide_eq_true_iff] at h
  exact h.1

theorem takeResetHold_changes (b : BayIx) {s : State} (hb : Named s b) : Changes s (takeResetHold b s) :=
  dueEvent_changes fun h => resetHoldExpiry_changes hb (resetHoldDue_run h)

theorem takeEdge_changes (b : BayIx) {s : State} (hb : Named s b) : Changes s (takeEdge b s) := by
  unfold takeEdge
  split
  · exact (Change.bayLights b _ hb).changes
  · exact .refl

theorem takeStretch_changes (b : BayIx) {s : State} (hb : Named s b) : Changes s (takeStretch b s) := by
  unfold takeStretch
  split
  · exact (Change.bayLights b _ hb).changes
  · exact .refl

/-! ### Management requests at a bay (R21, R28, R30) -/

theorem setIntent_changes (i : MgmtIntent) {b : BayIx} {w : Work} (hb : Named w.st b) :
    Changes w.st (setIntent i b w).st := by
  have m : Changes w.st (w.setBay b { w.st.bay b with mgmtIntent := i }).st := Changes.mark hb rfl
  exact m.trans (evaluate_changes (hb.setBay _))

theorem expediteBay_changes {b : BayIx} {w : Work} (hb : Named w.st b) : Changes w.st (expediteBay b w).st := by
  have m : Changes w.st (setExpedite b w).st := Changes.mark hb rfl
  exact m.trans (setIntent_changes .on (hb.setBay _))

theorem cycleBay_changes {b : BayIx} {w : Work} (hb : Named w.st b) (h : (w.st.bay b).powered = true) :
    Changes w.st (cycleBay b w).st := by
  have hn : Named (removePower b .drain w).st b := hb
  exact (removePower_changes hb h).trans (Changes.mark hn rfl)

theorem clearFault_changes {b : BayIx} {w : Work} (hb : Named w.st b) (h : (w.st.bay b).state = .fault) :
    Changes w.st (clearFault b w).st := by
  unfold clearFault
  extract_lets x
  split
  · exact Changes.setBay hb.concerned (.clear false (w.st.bay b).presence h)
  · rename_i hr
    exact leaveUnpowered_changes hb rfl
      ⟨rfl, .inr (.inr h), .inr ⟨rfl, fun e => absurd e hr⟩, .inr (.inl rfl)⟩ (by simp [h])

theorem resetBay_changes {b : BayIx} {s : State} (hb : Named s b) (h : (s.bay b).state = .run) :
    Changes s (resetBay b s) := Changes.setBay hb.concerned (.hold _ h)

end Sys2Proof.Machine
end

section
/-! PROOFS. Sensing, cooling, the tables and the resets of TABLES and LOOP scope, in the elementary changes they are made of. -/

namespace Sys2Proof.Machine

open Sys2Proof.Safety

/-! ### Sensing (chapters 3 and 4) -/

theorem chooseChannel_changes (s : State) : Changes s (chooseChannel s) := by
  unfold chooseChannel
  split
  · exact (Change.scanning (some _) (some _) s.scan.slotDue).changes
  · exact (Change.scanning s.scan.pointer none s.scan.slotDue).changes

theorem latch_changes (ch : ChannelIx) (s : State) : Changes s (latch ch s) := by
  have l : Changes s (s.setChannel ch (convert ch (s.sensor ch) (s.io.pins.analog.get ch).toNat)) :=
    (Change.latched ch _ (by have := (s.io.pins.analog.get ch).isLt; omega)).changes
  unfold latch
  dsimp only
  split
  · exact l.tail (.judged _)
  · exact l

theorem endSlot_changes (s : State) : Changes s (endSlot s) := by
  have chosen : ∀ t : State, Changes t (chooseChannel { t with scan := { t.scan with slotDue := false } }) := fun t =>
    (Change.scanning t.scan.pointer t.scan.converting false).changes.trans (chooseChannel_changes _)
  unfold endSlot
  refine Relation.ReflTransGen.trans ?_ (chosen _)
  split
  · split
    · exact .refl
    · exact latch_changes _ s
  · exact .refl

/-- A record judged again, and an attention raised with it or not (R100, R101). -/
theorem rejudged_changes {s : State} {b : BayIx} {t : TempRec} (h : s.temp b = some t) (hot stale : Bool) :
    Changes s (s.setTemp b (some { t with hot := hot, stale := stale })) ∧
      Changes s ((s.setTemp b (some { t with hot := hot, stale := stale })).raise b .onlyTemperature) := by
  have hs : Concerned s b := .inr (.inr (by rw [h]; rfl))
  have j : Changes s (s.setTemp b (some { t with hot := hot, stale := stale })) := by
    have c := Change.bay b _ _ hs (.judge t hot stale h)
    rw [State.setBay_self] at c
    exact c.changes
  refine ⟨j, j.trans (Changes.setBay (.inr (.inr ?_)) (.of_mark rfl))⟩
  rw [State.temp_setTemp_same]
  rfl

theorem turnStale_changes (b : BayIx) (s : State) : Changes s (turnStale b s) := by
  unfold turnStale
  split
  · exact (rejudged_changes ‹_› false true).2
  · exact .refl

theorem revive_changes (b : BayIx) (s : State) : Changes s (revive b s) := by
  unfold revive
  split
  · dsimp only
    split
    · exact (rejudged_changes ‹_› _ false).2
    · exact (rejudged_changes ‹_› _ false).1
  · exact .refl

theorem rejudgeAll_changes (s : State) : Changes s (rejudgeAll s) := by
  refine foldl_changes (fun t b => ?_) _ s
  unfold rejudge
  split
  · split
    · split
      · exact revive_changes b t
      · exact .refl
    · split
      · exact turnStale_changes b t
      · exact .refl
  · exact .refl

theorem takeStale_changes (b : BayIx) (s : State) : Changes s (takeStale b s) :=
  dueEvent_changes fun _ => turnStale_changes b s

/-- A drive temperature of a bay in RUN: the store, the attention, the cut (R22, R97). -/
theorem storeReport_changes {b : BayIx} (v : Int) {w : Work} (hb : Named w.st b) (h : (w.st.bay b).state = .run) :
    Changes w.st (storeReport b v w).st := by
  unfold storeReport
  extract_lets value hot crossed w1 w2
  have h1 : Changes w.st w1.st := by
    have hv : TempInRange ⟨value, 0, hot, false⟩ := by
      simp only [TempInRange, value, clampInt]
      omega
    have c := Change.bay b _ _ hb.concerned (.store _ h hv)
    rw [State.setBay_self] at c
    exact c.changes
  have hw2 : Changes w1.st w2.st ∧ Named w2.st b ∧ (w2.st.bay b).state = .run := by
    unfold w2
    split
    · refine ⟨Changes.mark (s := w1.st) hb rfl, hb, ?_⟩
      simpa [w1, State.raise, Bay.raise] using h
    · exact ⟨.refl, hb, h⟩
  obtain ⟨h2, hn, hr⟩ := hw2
  refine (h1.trans h2).trans ?_
  split
  · split
    · exact enterFault_changes_powered hn ((Bay.powered_iff _).mpr (.inr hr)) (by simp)
    · exact .refl
  · exact .refl

theorem takeReport_changes (n : Nat) (v : BitVec 16) (w : Work) : Changes w.st (takeReport n v w).st := by
  unfold takeReport
  split
  · exact .refl
  · split
    · split
      · rename_i h
        rw [Bool.and_eq_true, decide_eq_true_iff] at h
        exact storeReport_changes _ (.inl h.1) h.2
      · exact .refl
    · exact .refl

theorem writeSensor_changes (ch : ChannelIx) {c : SensorCfg} (h : SensorInRange c) (s : State) :
    Changes s (writeSensor ch c s) := by
  have e : Changes s { s with scan := { s.scan with sensors := s.scan.sensors.set ch c } } :=
    (Change.sensorEntry ch c h).changes
  unfold writeSensor
  dsimp only
  split
  · have u := e.tail (Change.unread ch)
    split
    · split
      · exact u.tail (.scanning s.scan.pointer (some _) s.scan.slotDue)
      · exact u
    · exact u
  · exact e

/-! ### Cooling (chapter 5) -/

theorem mapZones_changes (f : ZoneIx → Zone → Zone) (s : State) : Changes s (mapZones f s) :=
  (Change.cooled _ s.cool.fans s.cool.periodEnd s.cool.periodLength).changes

theorem mapFans_changes (g : FanIx → Fan → Fan) (s : State) : Changes s (mapFans g s) :=
  (Change.cooled s.cool.zones _ s.cool.periodEnd s.cool.periodLength).changes

theorem setFan_changes (f : FanIx) (x : Fan) (s : State) : Changes s (s.setFan f x) :=
  (Change.cooled s.cool.zones _ s.cool.periodEnd s.cool.periodLength).changes

theorem handReserve_changes (s : State) : Changes s (handReserve s) := (Change.reserve _).changes

theorem recomputeHolds_changes (s : State) : Changes s (recomputeHolds s) := mapZones_changes _ s

theorem coolingStages_changes (s : State) : Changes s (coolingStages s) := by
  have tach : ∀ t, Changes t (stageTach t) := fun t => by
    unfold stageTach
    exact (mapFans_changes _ t).trans (mapZones_changes _ _)
  have temps : ∀ t, Changes t (stageTemps t) := fun t => mapZones_changes _ t
  have demands : ∀ t, Changes t (stageDemands t) := fun t => mapZones_changes _ t
  have fans : ∀ t, Changes t (stageFans t) := fun t => mapFans_changes _ t
  have period : ∀ t, Changes t (nextPeriod t) := fun t => (Change.cooled t.cool.zones t.cool.fans _ _).changes
  exact ((((((tach s).trans (temps _)).trans (demands _)).trans (fans _)).trans (period _)).trans
    (handReserve_changes _)).trans (recomputeHolds_changes _)

theorem writeFan_changes (f : FanIx) {c : FanCfg} (h : FanCfgInRange c) (s : State) : Changes s (writeFan f c s) := by
  have e : Changes s { s with cool := { s.cool with fanCfg := s.cool.fanCfg.set f c } } :=
    (Change.fanEntry f c h).changes
  have spread : ∀ t : State, Changes t (spreadFailure t) := fun t => by
    unfold spreadFailure
    exact (mapZones_changes _ t).trans (mapFans_changes _ _)
  exact (((e.trans (setFan_changes f _ _)).trans (spread _)).trans (handReserve_changes _)).trans
    (recomputeHolds_changes _)

/-! ### Decoded entries are in range (10, section 10.4) -/

theorem byteAt_lt (e : List Byte) (i : Nat) : byteAt e i < 256 := (e.getD i 0#8).isLt

theorem wordAt_lt (e : List Byte) (i : Nat) : wordAt e i < 65536 := by
  have := byteAt_lt e i
  have := byteAt_lt e (i + 1)
  unfold wordAt
  omega

theorem decodeSlot_inRange {n : Nat} {f : SlotField} (h : decodeSlot n = some f) : slotInRange f = true := by
  unfold decodeSlot at h
  split at h
  · cases h
    simp only [slotInRange, decide_eq_true_iff]
    omega
  · split at h
    · cases h
      rfl
    · split at h <;> cases h
      rfl

theorem decodeBayCfg_inRange {e : List Byte} {c : BayCfg} (h : decodeBayCfg e = some c) : slotInRange c.slot = true := by
  unfold decodeBayCfg at h
  split at h <;> cases h
  exact decodeSlot_inRange ‹_›

theorem decodeClass_inRange {e : List Byte} {c : DriveClass} {m : Bool} (h : decodeClass e = some (c, m)) :
    ClassInRange c := by
  have h4 := byteAt_lt e 4
  have h5 := byteAt_lt e 5
  have h6 := byteAt_lt e 6
  unfold decodeClass at h
  split at h <;> cases h
  simp only [ClassInRange]
  omega

theorem decodePoint_inRange (e : List Byte) : PointInRange (decodePoint e).1 := by
  have := byteAt_lt e 2
  simp only [PointInRange, decodePoint, clampInt]
  omega

theorem decodeZoneCfg_inRange (e : List Byte) : ZoneCfgInRange (decodeZoneCfg e).1 := by
  have := byteAt_lt e 3
  simp only [ZoneCfgInRange, decodeZoneCfg, clampInt]
  omega

theorem decodeSensor_inRange {e : List Byte} {c : SensorCfg} {m : Bool} (h : decodeSensor e = some (c, m)) :
    SensorInRange c := by
  have := wordAt_lt e 4
  unfold decodeSensor at h
  split at h <;> cases h
  have := BitVec.le_toInt (BitVec.ofNat 8 (byteAt e 6))
  have := BitVec.toInt_lt (x := BitVec.ofNat 8 (byteAt e 6))
  simp only [SensorInRange]
  omega

theorem decodeFan_inRange {e : List Byte} {c : FanCfg} {m : Bool} (h : decodeFan e = some (c, m)) :
    FanCfgInRange c := by
  have := wordAt_lt e 5
  have := byteAt_lt e 4
  unfold decodeFan at h
  split at h <;> cases h
  simp only [FanCfgInRange, clampNat]
  omega

/-! ### Table writes (R178) -/

theorem writeBayCfg_changes (b : BayIx) {c : BayCfg} (h : slotInRange c.slot = true) (w : Work) :
    Changes w.st (writeBayCfg b c w).st := by
  unfold writeBayCfg
  extract_lets old w1 w2 w3 w4
  have h2 : Changes w.st w2.st := by
    have e : Changes w.st w1.st := (Change.bayEntry b c fun _ => h).changes
    unfold w2
    split
    · exact e.trans (resolveMap_changes _)
    · exact e
  refine h2.trans ?_
  split
  · rename_i hp
    obtain ⟨h3, n3⟩ : Changes w2.st w3.st ∧ Named w3.st b := by
      unfold w3
      split
      · exact ⟨.refl, .inl hp⟩
      · exact ⟨.refl, .inl hp⟩
    obtain ⟨h4, n4⟩ : Changes w3.st w4.st ∧ Named w4.st b := by
      unfold w4
      split
      · refine ⟨evaluate_changes n3, ?_⟩
        unfold Named State.populated
        rw [(evaluate_loop_rst b w3).1, (evaluate_loop_rst b w3).2]
        exact n3
      · exact ⟨.refl, n3⟩
    refine (h3.trans h4).trans ?_
    split
    · exact reresolve_changes n4
    · exact .refl
  · exact .refl

theorem writePower_changes {c g m : Nat} (h : c ≤ 60000 ∧ g ≤ 2000 ∧ m ≤ 2000) (w : Work) :
    Changes w.st (writePower c g m w).st := by
  unfold writePower
  dsimp only
  split
  · exact (Change.power c g m h).changes
  · exact (Change.power c g m h).changes

theorem writeCooling_changes {p u d l : Nat} (h : 200 ≤ p ∧ p ≤ 5000 ∧ 1 ≤ u ∧ u ≤ 255 ∧ 1 ≤ d ∧ d ≤ 255)
    (hl : 1 ≤ l ∧ l ≤ 255) (w : Work) : Changes w.st (writeCooling p u d l w).st := by
  unfold writeCooling
  extract_lets changed w'
  have c : Changes w.st w'.st := (Change.pacing p u d h).changes.tail (Change.staleness l hl)
  clear_value w'
  split
  · rw [Work.st_map]
    exact c.trans (rejudgeAll_changes w'.st)
  · exact c

/-- A put that stores goes where elementary changes go. -/
def Put.Goes (p : Put) : Prop := ∀ clamped f, p = .store clamped f → ∀ w, Changes w.st (f w).st

theorem Put.goes_refuse (r : Result) : (Put.refuse r).Goes := fun _ _ h => nomatch h

theorem Put.goes_store {f : Work → Work} (h : ∀ w, Changes w.st (f w).st) (clamped : Bool) :
    (Put.store clamped f).Goes := by
  rintro _ _ ⟨⟩
  exact h

theorem Put.goes_of {α : Type} {f : α → Work → Work} {x : Option (α × Bool)}
    (h : ∀ v m, x = some (v, m) → ∀ w, Changes w.st (f v w).st) : (Put.of x f).Goes := by
  unfold Put.of
  split
  · exact Put.goes_store (h _ _ rfl) _
  · exact Put.goes_refuse _

theorem putBayCfg_goes (b : BayIx) (e : List Byte) (s : State) : (putBayCfg b e s).Goes := by
  unfold putBayCfg
  split
  · exact Put.goes_refuse _
  · split
    · exact Put.goes_refuse _
    · exact Put.goes_store (writeBayCfg_changes b (decodeBayCfg_inRange ‹_›)) _

theorem clampNat_inRange {lo hi : Nat} (h : lo ≤ hi) (n : Nat) : lo ≤ clampNat lo hi n ∧ clampNat lo hi n ≤ hi := by
  unfold clampNat
  omega

theorem maxByte_inRange (e : List Byte) (i : Nat) : 1 ≤ max 1 (byteAt e i) ∧ max 1 (byteAt e i) ≤ 255 := by
  have := byteAt_lt e i
  omega

theorem putPart_goes (i : Nat) (e : List Byte) : (putPart i e).Goes := by
  unfold putPart
  split
  · exact Put.goes_store (writePower_changes ⟨Nat.min_le_left .., Nat.min_le_left .., Nat.min_le_left ..⟩) _
  · exact Put.goes_store
      (fun w => (Change.scheduler { w.st.sched with pendingPace := some ⟨_, _⟩ } rfl).changes) _
  · exact Put.goes_store
      (fun w => (Change.timing _ _ (maxByte_inRange e 0) (clampNat_inRange (by omega) _)).changes) _
  · split
    · exact Put.goes_refuse _
    · exact Put.goes_store (fun w => (Change.timeout _ (maxByte_inRange e 0)).changes.tail (.enable _)) _
  · obtain ⟨u1, u2⟩ := maxByte_inRange e 2
    have p := clampNat_inRange (lo := 200) (hi := 5000) (by omega) (wordAt e 0)
    exact Put.goes_store (writeCooling_changes ⟨p.1, p.2, u1, u2, maxByte_inRange e 3⟩ (maxByte_inRange e 4)) _
  · exact Put.goes_store (fun w => (Change.brightness _ (Nat.min_le_left ..)).changes) _

theorem putEntry_goes (table i : Nat) (e : List Byte) (s : State) : (putEntry table i e s).Goes := by
  unfold putEntry
  split
  · exact putBayCfg_goes _ e s
  · exact Put.goes_of fun _ _ _ w => (Change.carriers _).changes
  · exact Put.goes_of fun c _ h w => (Change.classEntry _ c (decodeClass_inRange h)).changes
  · exact Put.goes_of fun _ _ _ w => (Change.display _ w.st.ind.rules w.st.ind.resolutionDue).changes
  · exact Put.goes_of fun _ _ _ w => (Change.display w.st.ind.patterns _ w.st.ind.resolutionDue).changes
  · exact Put.goes_store (fun w => (Change.point _ _ (decodePoint_inRange e)).changes) _
  · exact Put.goes_store
      (fun w => (Change.zoneEntry _ _ (decodeZoneCfg_inRange e)).changes.trans (recomputeHolds_changes _)) _
  · exact Put.goes_of fun c _ h w => writeSensor_changes _ (decodeSensor_inRange h) w.st
  · exact Put.goes_of fun c _ h w => writeFan_changes _ (decodeFan_inRange h) w.st
  · exact putPart_goes i e
  · exact Put.goes_refuse _

/-! ### The resets of TABLES and LOOP scope (R183, R184) -/

theorem defaultSensor_inRange (ch : ChannelIx) : SensorInRange (defaultSensor ch) := by
  unfold defaultSensor
  split <;> simp [SensorInRange]

theorem defaultFanCfg_inRange (f : FanIx) : FanCfgInRange (defaultFanCfg.get f) := by
  simp [defaultFanCfg, Vector.get_eq_getElem, defaultFanEntry, FanCfgInRange]

theorem defaultClasses_inRange (c : ClassIx) : ClassInRange (defaultClasses.get c) := by
  revert c
  decide

theorem defaultCurves_inRange (i : Fin 24) : PointInRange (defaultCurves.get i) := by
  revert i
  decide

theorem defaultCfg_inRange (p : Policy) (b : BayIx) : slotInRange ((defaultCfg p).get b).slot = true := by
  simp [defaultCfg, Vector.get_eq_getElem, defaultBayCfg, slotInRange]

theorem strapCeiling_le (code : BitVec 2) : strapCeiling code ≤ 60000 := by
  unfold strapCeiling
  split
  · omega
  · split
    · omega
    · split <;> omega

/-- The defaults of every table and setting, block by block (R183). -/
theorem restoreValues_changes (s : State) : Changes s (restoreValues s) := by
  have sup : ∀ s : State, Changes s { s with sup :=
      { s.sup with
        cfg := defaultCfg s.rst.straps.policy, carrierMap := defaultCarrierMap, debounceSetting := defaultDebounce
        drainSetting := defaultDrain, attentionEnable := true } } := fun s =>
    (((Change.bayTable _ (defaultCfg_inRange s.rst.straps.policy)).changes.tail (.carriers defaultCarrierMap)).tail
      (.timing defaultDebounce defaultDrain (by decide) (by decide))).tail (.enable true)
  have sched : ∀ s : State, Changes s { s with sched :=
      { s.sched with classes := defaultClasses, pendingPace := some defaultPace } } := fun s =>
    (Change.scheduler { s.sched with pendingPace := some defaultPace } rfl).changes.tail
      (.classTable _ defaultClasses_inRange)
  have scan : ∀ s : State, Changes s { s with
      acct :=
        { s.acct with
          ceiling := strapCeiling s.rst.straps.ceilingCode, guardBand := defaultGuard, margin := defaultMargin }
      scan := { s.scan with staleness := defaultStaleness } } := fun s =>
    (Change.power _ defaultGuard defaultMargin ⟨strapCeiling_le s.rst.straps.ceilingCode, by decide, by decide⟩).changes.tail
      (.staleness defaultStaleness (by decide))
  have cool : ∀ s : State, Changes s { s with cool :=
      { s.cool with
        zoneCfg := Vector.replicate 4 defaultZoneCfg, pendingCurves := defaultCurves, activeCurves := defaultCurves
        period := defaultPeriod, upStep := defaultUpStep, downStep := defaultDownStep } } := fun s =>
    (((Change.zoneTable (Vector.replicate 4 defaultZoneCfg) (by decide)).changes.tail
      (.points _ defaultCurves_inRange)).tail (.curves defaultCurves fun _ => .inl rfl)).tail
      (.pacing defaultPeriod defaultUpStep defaultDownStep (by decide))
  have ind : ∀ s : State, Changes s { s with
      ind :=
        { s.ind with
          patterns := defaultPatterns, rules := defaultRules, brightness := defaultBrightness
          bays := Vector.ofFn fun b => { s.bayLights b with hold := none } }
      loop := { s.loop with timeout := defaultLoopTimeout } } := fun s =>
    (((Change.display defaultPatterns defaultRules s.ind.resolutionDue).changes.tail
      (.brightness defaultBrightness (by decide))).tail
      (.releases _ fun b => by simp [Vector.get_eq_getElem, State.bayLights])).tail
      (.timeout defaultLoopTimeout (by decide))
  exact ((((ind s).trans (scan _)).trans (sup _)).trans (sched _)).trans (cool _)

theorem restoreFans_changes (s : State) : Changes s (restoreFans s) := by
  unfold restoreFans
  extract_lets t _ u v
  have ht : Changes s t := mapFans_changes _ s
  have hv : Changes u v := mapFans_changes _ u
  exact ((ht.tail (.fanTable _ defaultFanCfg_inRange)).trans hv).trans (mapZones_changes _ v)

theorem restoreAll_changes (s : State) : Changes s (restoreAll s) := by
  unfold restoreAll
  extract_lets changed t u
  have ht : Changes s t :=
    ((restoreValues_changes s).trans (foldl_changes (fun t ch => writeSensor_changes ch (defaultSensor_inRange ch) t) _ _)).trans
      (restoreFans_changes _)
  have hu : Changes t u := by
    unfold u
    split
    · exact rejudgeAll_changes t
    · exact .refl
  exact (((ht.trans hu).trans (handReserve_changes u)).trans (recomputeHolds_changes _)).trans (resolveMap_changes _)

theorem restoreBays_changes (old : State) (w : Work) : Changes w.st (restoreBays old w).st := by
  unfold restoreBays
  refine (foldl_changes_work (fun w b => ?_) _ w).trans (foldl_changes_work (fun w b => ?_) _ _)
  · split
    · rename_i h
      rw [Bool.and_eq_true] at h
      exact reresolve_changes (.inl h.1)
    · exact .refl
  · split
    · rename_i h
      rw [Bool.and_eq_true] at h
      unfold evaluateRestored
      split
      · exact .refl
      · exact evaluate_changes (.inl h.1)
    · exact .refl

theorem resetTables_changes (s : State) : Changes s (resetTables s) := by
  refine event_changes ?_
  rw [Work.st_owe]
  exact Relation.ReflTransGen.trans (restoreAll_changes s) (restoreBays_changes s ((Work.start s).map restoreAll))

theorem resetLoop_changes (s : State) : Changes s (resetLoop s) := by
  have l : Changes s { s with loop := { s.loop with position := none, reply := none, replyPlaced := false }, window := none } :=
    (Change.loop { s.loop with position := none, reply := none, replyPlaced := false } ⟨rfl, rfl, rfl⟩).changes.tail
      (.window none)
  exact l.trans (resolveMap_changes _)

end Sys2Proof.Machine
end

section
/-! PROOFS. The messages, the loop, the tick and the commands: a step is made of elementary changes. -/

namespace Sys2Proof.Machine

open Sys2Proof.Safety

/-! ### The messages (chapter 8) -/

/-- The execution of a request goes where elementary changes go. -/
def Answer.Goes (a : Answer) (s : State) : Prop := Changes s a.st

theorem refuse_goes (r : Result) (s : State) : (refuse r s).Goes s := Relation.ReflTransGen.refl

theorem report_goes (data : List Byte) (s : State) : (report data s).Goes s := Relation.ReflTransGen.refl

theorem accept_goes {s t : State} (h : Changes s t) : (accept t).Goes s := h

theorem namedBay_named {s : State} {n : Byte} {b : BayIx} (h : namedBay s n = some b) : Named s b := by
  unfold namedBay at h
  split at h
  · split at h <;> cases h
    exact .inl ‹_›
  · cases h

theorem onNamedBay_goes {s : State} {k : BayIx → Answer} (h : ∀ b, Named s b → (k b).Goes s) (bay : Byte) :
    (onNamedBay bay s k).Goes s := by
  unfold onNamedBay
  split
  · exact h _ (namedBay_named ‹_›)
  · exact refuse_goes _ s

/-- A window holds populated bays alone, and so a change of each of its bays is one of a named bay (R34). -/
theorem onWindow_goes {k : State → BayIx → State}
    (h : ∀ s b, s.populated b = true → Changes s (k s b) ∧ (k s b).rst = s.rst) (start stop : Byte) (s : State) :
    (onWindow start stop s k).Goes s := by
  have sweep : ∀ (l : List BayIx) (t : State), (∀ b ∈ l, t.populated b = true) → Changes t (l.foldl k t) := by
    intro l
    induction l with
    | nil => exact fun _ _ => .refl
    | cons b l ih =>
      intro t hl
      obtain ⟨hc, hr⟩ := h t b (hl b (by simp))
      refine hc.trans (ih _ fun c hm => ?_)
      have hp := hl c (by simp [hm])
      unfold State.populated at *
      rwa [hr]
  unfold onWindow
  split
  · rename_i bs hw
    refine accept_goes (sweep bs s fun b hb => ?_)
    unfold bayWindow at hw
    split at hw <;> cases hw
    simp only [List.mem_filter, Bool.and_eq_true] at hb
    exact hb.2.2
  · exact refuse_goes _ s

theorem msgIntent_goes (i : MgmtIntent) (bay : Byte) (s : State) : (msgIntent i bay s).Goes s := by
  refine onNamedBay_goes (fun b hb => ?_) bay
  split
  · exact refuse_goes _ s
  · exact accept_goes (event_changes (setIntent_changes i hb))

theorem msgExpedite_goes (bay : Byte) (s : State) : (msgExpedite bay s).Goes s := by
  refine onNamedBay_goes (fun b hb => ?_) bay
  split
  · exact refuse_goes _ s
  · exact accept_goes (event_changes (expediteBay_changes hb))

theorem msgCycle_goes (bay : Byte) (s : State) : (msgCycle bay s).Goes s := by
  refine onNamedBay_goes (fun b hb => ?_) bay
  split
  · rename_i h
    exact accept_goes (event_changes (cycleBay_changes hb h))
  · exact refuse_goes _ s

theorem msgClear_goes (bay : Byte) (s : State) : (msgClear bay s).Goes s := by
  refine onNamedBay_goes (fun b hb => ?_) bay
  split
  · rename_i h
    exact accept_goes (event_changes (clearFault_changes hb h))
  · exact refuse_goes _ s

theorem msgBayPower_goes (bay action : Byte) (s : State) : (msgBayPower bay action s).Goes s := by
  unfold msgBayPower
  split
  · exact msgIntent_goes _ _ s
  · exact msgExpedite_goes _ s
  · exact msgIntent_goes _ _ s
  · exact msgIntent_goes _ _ s
  · exact msgCycle_goes _ s
  · exact msgClear_goes _ s
  · exact refuse_goes _ s

theorem msgBayReset_goes (bay : Byte) (s : State) : (msgBayReset bay s).Goes s := by
  refine onNamedBay_goes (fun b hb => ?_) bay
  split
  · rename_i h
    exact accept_goes (resetBay_changes hb h)
  · exact refuse_goes _ s

theorem classBay_changes {b : BayIx} (o : Option ClassIx) {w : Work} (hb : Named w.st b) :
    Changes w.st (classBay b o w).st := by
  have e : Changes w.st (w.st.setBayCfg b { w.st.bayCfg b with override := o }) :=
    (Change.bayEntry b { w.st.bayCfg b with override := o } id).changes
  exact e.trans (reresolve_changes (w := w.map fun s => s.setBayCfg b { s.bayCfg b with override := o }) hb)

theorem msgBayClass_goes (bay cls : Byte) (s : State) : (msgBayClass bay cls s).Goes s := by
  refine onNamedBay_goes (fun b hb => ?_) bay
  cases decodeOverride cls.toNat with
  | none => exact refuse_goes _ s
  | some o =>
    cases hs : (s.bay b).state with
    | surge | run | drain => simpa only [hs] using refuse_goes .busy s
    | empty | settling | idle | queued | fault =>
      simpa only [hs] using accept_goes (event_changes (classBay_changes o (w := Work.start s) hb))

theorem msgBayRead_goes (bay : Byte) (s : State) : (msgBayRead bay s).Goes s :=
  onNamedBay_goes (fun _ _ => report_goes _ s) bay

theorem msgAttentionClear_goes (start stop kinds : Byte) (s : State) : (msgAttentionClear start stop kinds s).Goes s := by
  unfold msgAttentionClear
  split
  · exact refuse_goes _ s
  · exact onWindow_goes (fun s b hb => ⟨Changes.mark (.inl hb) rfl, rfl⟩) start stop s

theorem msgAttentionMask_goes (start stop setMask clearMask : Byte) (s : State) :
    (msgAttentionMask start stop setMask clearMask s).Goes s := by
  unfold msgAttentionMask
  split
  · rename_i add del _ _
    exact onWindow_goes (fun s b _ =>
      ⟨(Change.bayEntry b { s.bayCfg b with mask := ((s.bayCfg b).mask.union add).diff del } id).changes, rfl⟩)
      start stop s
  · exact refuse_goes _ s

theorem msgHold_goes (start stop : Byte) (h : Option (Fin 32)) (s : State) : (msgHold start stop h s).Goes s :=
  onWindow_goes (fun _ b hb => ⟨(Change.bayLights b _ (.inl hb)).changes, rfl⟩) start stop s

theorem msgIndicatorHold_goes (start stop code : Byte) (s : State) : (msgIndicatorHold start stop code s).Goes s := by
  unfold msgIndicatorHold
  split
  · exact msgHold_goes start stop _ s
  · split
    · exact msgHold_goes start stop _ s
    · exact refuse_goes _ s

theorem msgBlinkSync_goes (s : State) : (msgBlinkSync s).Goes s := accept_goes Change.epoch.changes

theorem msgDriveTemperature_goes (first : Byte) (v0 v1 v2 : BitVec 16) (s : State) :
    (msgDriveTemperature first v0 v1 v2 s).Goes s := by
  refine onNamedBay_goes (fun _ _ => ?_) first
  refine event_changes (f := fun w =>
    takeReport (first.toNat + 2) v2 (takeReport (first.toNat + 1) v1 (takeReport first.toNat v0 w))) ?_
  exact ((takeReport_changes _ v0 _).trans (takeReport_changes _ v1 _)).trans (takeReport_changes _ v2 _)

theorem msgTableWindow_goes (table start stop : Byte) (s : State) : (msgTableWindow table start stop s).Goes s := by
  unfold msgTableWindow
  split
  · exact Relation.ReflTransGen.refl
  · exact (Change.window (some _)).changes

theorem msgTablePut_goes (index : Byte) (entry : List Byte) (s : State) : (msgTablePut index entry s).Goes s := by
  unfold msgTablePut
  split
  · exact refuse_goes _ s
  · split
    · exact Relation.ReflTransGen.refl
    · split
      · exact Relation.ReflTransGen.refl
      · rename_i clamped f hp
        exact (event_changes (putEntry_goes _ _ entry s clamped f hp _)).tail (.window (some _))

theorem msgTableGet_goes (index : Byte) (s : State) : (msgTableGet index s).Goes s := by
  unfold msgTableGet
  split
  · exact refuse_goes _ s
  · split
    · exact Relation.ReflTransGen.refl
    · exact (Change.window (some _)).changes

theorem msgCurveActivate_goes (zone : Byte) (s : State) : (msgCurveActivate zone s).Goes s := by
  unfold msgCurveActivate
  split
  · exact refuse_goes _ s
  · split
    · exact accept_goes (activateCurve_changes _ s)
    · exact refuse_goes _ s

theorem msgIdentify_goes (s : State) : (msgIdentify s).Goes s :=
  (Change.loop { s.loop with overrun := false } ⟨rfl, rfl, rfl⟩).changes

theorem msgPowerRead_goes (page : Byte) (s : State) : (msgPowerRead page s).Goes s := by
  unfold msgPowerRead
  split
  · exact report_goes _ s
  · exact report_goes _ s
  · exact refuse_goes _ s

theorem msgQueueRead_goes (offset : Byte) (s : State) : (msgQueueRead offset s).Goes s := by
  unfold msgQueueRead
  split
  · exact refuse_goes _ s
  · exact report_goes _ s

theorem msgFanRead_goes (fan : Byte) (s : State) : (msgFanRead fan s).Goes s := by
  unfold msgFanRead
  split
  · exact report_goes _ s
  · exact refuse_goes _ s

theorem msgSensorRead_goes (channel : Byte) (s : State) : (msgSensorRead channel s).Goes s := by
  unfold msgSensorRead
  split
  · exact report_goes _ s
  · exact refuse_goes _ s

theorem msgZoneRead_goes (zone : Byte) (s : State) : (msgZoneRead zone s).Goes s := by
  unfold msgZoneRead
  split
  · exact refuse_goes _ s
  · exact report_goes _ s

theorem msgResetLoop_goes (s : State) : (msgResetLoop s).Goes s := accept_goes (resetLoop_changes s)

theorem msgResetTables_goes (s : State) : (msgResetTables s).Goes s := accept_goes (resetTables_changes s)

theorem msgResetFull_goes (s : State) : (msgResetFull s).Goes s := (Change.reset .message).changes

theorem requestOf_goes (kind : Byte) (args : List Byte) (s : State) : ((requestOf kind args).2 s).Goes s := by
  unfold requestOf
  dsimp only
  split
  · exact msgIdentify_goes s
  · exact msgBayRead_goes _ s
  · exact msgBayPower_goes _ _ s
  · exact msgBayReset_goes _ s
  · exact msgBayClass_goes _ _ s
  · exact msgAttentionClear_goes _ _ _ s
  · exact msgAttentionMask_goes _ _ _ _ s
  · exact msgIndicatorHold_goes _ _ _ s
  · exact msgBlinkSync_goes s
  · exact msgDriveTemperature_goes _ _ _ _ s
  · exact msgTableWindow_goes _ _ _ s
  · exact msgTablePut_goes _ _ s
  · exact msgTableGet_goes _ s
  · exact msgCurveActivate_goes _ s
  · exact msgPowerRead_goes _ s
  · exact msgQueueRead_goes _ s
  · exact msgFanRead_goes _ s
  · exact msgSensorRead_goes _ s
  · exact msgZoneRead_goes _ s
  · unfold partReset
    split
    · exact msgResetLoop_goes s
    · exact msgResetTables_goes s
    · exact msgResetFull_goes s
    · exact refuse_goes _ s
  · exact refuse_goes _ s

theorem deliver_changes {dst tag kind : Byte} {acts : Bool} {run : State → Answer} (h : ∀ s, (run s).Goes s)
    (s : State) : Changes s (deliver dst tag kind acts run s) := by
  refine deliver_kept (P := Changes s) (fun t ht => ?_) (fun t r ht => ?_) (fun t ht => ht.trans (h t)) .refl
  · exact ht.tail (.loop { t.loop with overrun := true } ⟨rfl, rfl, rfl⟩)
  · exact ht.tail (.loop { t.loop with reply := some r, replyPlaced := false } ⟨rfl, rfl, rfl⟩)

/-- A message row goes where the execution of its request goes (R162; log 12). -/
theorem messageRow_changes {dst tag kind : Byte} {acts : Bool} {run : State → Answer} (h : ∀ s, (run s).Goes s)
    {s t : State} (ht : live s (deliver dst tag kind acts run) = .next t) : Changes s t :=
  live_kept (P := Changes s) (fun u hu => hu.trans (deliver_changes h u)) .refl ht

/-! ### The end of a frame (R155, R160, R161, R163) -/

theorem applyRequest_changes {w : Work} {q : BayIx × Byte} (hq : Named w.st q.1) :
    Changes w.st (applyRequest w q).st := by
  unfold applyRequest
  split
  · have l : Changes w.st (w.st.setBayLights q.1 { w.st.bayLights q.1 with loopCode := requestCode q.2 }) :=
      (Change.bayLights q.1 _ hq).changes
    dsimp only
    split
    · exact l
    · refine l.trans ?_
      have m : Changes (w.st.setBayLights q.1 { w.st.bayLights q.1 with loopCode := requestCode q.2 }) _ :=
        Changes.mark (b := q.1) (x := { w.st.bay q.1 with loopIntent := requestIntent q.2 }) hq rfl
      exact m.trans (evaluate_changes (w := (w.map fun s =>
        s.setBayLights q.1 { s.bayLights q.1 with loopCode := requestCode q.2 }).setBay q.1
          { w.st.bay q.1 with loopIntent := requestIntent q.2 }) hq)
  · exact .refl

theorem applyRequest_loop (w : Work) (q : BayIx × Byte) : (applyRequest w q).st.loop = w.st.loop := by
  unfold applyRequest
  split
  · dsimp only
    split
    · rfl
    · exact (evaluate_loop_rst _ _).1
  · rfl

theorem applyRequests_changes (s : State) : Changes s (applyRequests s) := by
  have sweep : ∀ (l : List (BayIx × Byte)) (w : Work), (∀ q ∈ l, q ∈ w.st.loop.frame.requests) →
      Changes w.st (l.foldl applyRequest w).st := by
    intro l
    induction l with
    | nil => exact fun _ _ => .refl
    | cons q l ih =>
      intro w hl
      refine (applyRequest_changes (.inr ⟨q, hl q (by simp), rfl⟩)).trans (ih _ fun r hr => ?_)
      rw [applyRequest_loop]
      exact hl r (by simp [hr])
  exact event_changes (sweep _ (Work.start s) fun _ hq => hq)

theorem releaseReply_changes (s : State) : Changes s (releaseReply s) := by
  unfold releaseReply
  split
  · exact (Change.loop { s.loop with reply := none, replyPlaced := false } ⟨rfl, rfl, rfl⟩).changes
  · exact .refl

theorem handCell_changes (cell : List Byte) (s : State) : Changes s (handCell cell s) :=
  deliver_changes (fun t => requestOf_goes _ _ t) s

theorem placedEnd_changes (s : State) : Changes s (placedEnd s) := by
  unfold placedEnd executeCell
  refine ((releaseReply_changes s).trans (applyRequests_changes _)).trans ?_
  split
  · exact handCell_changes _ _
  · exact .refl

theorem latchPosition_changes (flags hop : Byte) (s : State) : Changes s (latchPosition flags hop s) := by
  unfold latchPosition
  split
  · extract_lets p
    split
    · exact .refl
    · exact (Change.loop { s.loop with position := p } ⟨rfl, rfl, rfl⟩).changes.trans (resolveMap_changes _)
  · exact .refl

theorem goodEnd_changes (s : State) : Changes s (goodEnd s) := by
  have timed : ∀ t, Changes t (restartTimer t) := fun t =>
    (Change.loop { t.loop with timer := t.loop.timeout * 100, lost := false } ⟨rfl, rfl, rfl⟩).changes
  have taken : Changes s { s with loop := { s.loop with frameEnd := none } } :=
    (Change.loop { s.loop with frameEnd := none } ⟨rfl, rfl, rfl⟩).changes
  unfold goodEnd
  dsimp only
  refine taken.trans ?_
  split
  · split
    · exact placedEnd_changes _
    · exact ((placedEnd_changes _).trans (timed _)).trans (latchPosition_changes _ _ _)
  · exact (timed _).trans (latchPosition_changes _ _ _)

theorem badEnd_changes (s : State) : Changes s (badEnd s) := by
  have taken : Changes s { s with loop := { s.loop with frameEnd := none } } :=
    (Change.loop { s.loop with frameEnd := none } ⟨rfl, rfl, rfl⟩).changes
  exact taken.trans (emptyFrame_changes _)

theorem takeFrameEnd_changes (s : State) : Changes s (takeFrameEnd s) := by
  unfold takeFrameEnd
  split
  · exact goodEnd_changes s
  · exact badEnd_changes s
  · exact .refl

/-! ### Symbols (R148 to R154, R157, R159, R162, R164) -/

theorem abandon_changes (next : Receiver) (s : State) : Changes s (abandon next s) :=
  (Change.loop { s.loop with receiver := next } ⟨rfl, rfl, rfl⟩).changes.trans (emptyFrame_changes _)

theorem captureByte_changes (n : Nat) (b : Byte) (s : State) : Changes s (captureByte n b s) := by
  have frame : ∀ f : Frame, f.map = s.loop.frame.map ∧ f.requests = s.loop.frame.requests →
      Changes s { s with loop := { s.loop with frame := f } } := fun f h => (Change.frame f h).changes
  unfold captureByte
  dsimp only
  split
  · exact frame _ ⟨rfl, rfl⟩
  split
  · exact frame _ ⟨rfl, rfl⟩
  split
  · exact frame _ ⟨rfl, rfl⟩
  split
  · unfold placeReply
    split
    · split
      · rename_i p r _ _ _
        exact (Change.loop { s.loop with replyPlaced := true } ⟨rfl, rfl, rfl⟩).changes.tail
          (.frame { s.loop.frame with placing := replyBytes p r } ⟨rfl, rfl⟩)
      · exact .refl
    · exact .refl
  split
  · exact .refl
  split
  · have fixed : Changes s (if n = 19 then fixMap s else s) := by
      split
      · exact fixMap_changes s
      · exact .refl
    split
    · exact fixed.trans (captureRequest_changes _ b _)
    · exact fixed
  split
  · unfold openCell
    split
    · split
      · exact frame _ ⟨rfl, rfl⟩
      · exact .refl
    · exact .refl
  split
  · exact frame _ ⟨rfl, rfl⟩
  split
  · exact frame _ ⟨rfl, rfl⟩
  · exact (Change.loop
      { s.loop with tx := { s.loop.tx with good := decide (s.loop.frame.checkHigh ++ b = s.loop.frame.crc) } }
      ⟨rfl, rfl, rfl⟩).changes

theorem receive_changes (x : LoopSym) (s : State) : Changes s (receive x s).2 := by
  have received : ∀ b, Changes s (frameByte b s).2 := fun b =>
    (captureByte_changes s.loop.frame.count b s).tail (.frame _ ⟨rfl, rfl⟩)
  unfold receive
  split
  · split
    · exact (Change.loop { s.loop with receiver := .inFrame, replyPlaced := false } ⟨rfl, rfl, rfl⟩).changes.trans (emptyFrame_changes _)
    all_goals exact .refl
  · split
    · split
      · exact abandon_changes _ s
      · exact received _
    · split
      · exact (Change.loop { s.loop with receiver := .between, frameEnd := some s.loop.tx.good } ⟨rfl, rfl, rfl⟩).changes
      · exact abandon_changes _ s
    all_goals exact abandon_changes _ s
  · split
    · exact (Change.loop { s.loop with receiver := .between } ⟨rfl, rfl, rfl⟩).changes
    all_goals exact .refl

theorem shift_changes (item : TxItem) (s : State) : Changes s (shift item s) :=
  (Change.loop (s := s) (shift item s).loop ⟨rfl, rfl, rfl⟩).changes

theorem takeSymbol_changes (x : LoopSym) (s : State) : Changes s (takeSymbol x s) :=
  ((takeFrameEnd_changes s).trans (receive_changes x _)).trans (shift_changes _ _)

theorem breakLoop_changes (s : State) : Changes s (breakLoop s) := by
  unfold breakLoop
  extract_lets t
  have ht : Changes s t := by
    unfold t
    split
    · exact abandon_changes _ s
    · exact .refl
  exact ht.tail (.loop
    { t.loop with
      receiver := .discard, clock := false
      tx := { t.loop.tx with first := .sym .idle, second := .sym .idle } } ⟨rfl, rfl, rfl⟩)

theorem takeLoopTimer_changes (s : State) : Changes s (takeLoopTimer s) :=
  (Change.loop { s.loop with lost := true } ⟨rfl, rfl, rfl⟩).changes

/-! ### The tick (R1) -/

theorem takeBoundary_changes (s : State) : Changes s (takeBoundary s) :=
  event_changes (Change.scheduler (s.sched.boundary s.time.now) rfl).changes

theorem takeCooling_changes (s : State) : Changes s (takeCooling s) := event_changes (coolingStages_changes s)

theorem takeConversion_changes (s : State) : Changes s (takeConversion s) := event_changes (endSlot_changes s)

theorem completeTick_changes (s : State) : Changes s (completeTick s) := by
  refine completeTick_kept (P := Changes s) (fun t ht => ht.trans (takeFrameEnd_changes t)) ?_ ?_ .refl
  · intro k hk t b ht hb
    have hn : Named t b := .inl hb
    refine ht.trans ?_
    simp only [List.mem_cons, List.not_mem_nil, or_false] at hk
    rcases hk with rfl | rfl | rfl | rfl | rfl | rfl | rfl | rfl | rfl | rfl | rfl
    · exact takePresenceActive_changes b hn
    · exact takePresenceLoss_changes b hn
    · exact takePowerGoodSeen_changes b hn
    · exact takePowerGoodLost_changes b hn
    · exact takeSwitchFault_changes b hn
    · exact takeStretch_changes b hn
    · exact takeEdge_changes b hn
    · exact takeSurgeDeadline_changes b hn
    · exact takePgDeadline_changes b hn
    · exact takeResetHold_changes b hn
    · exact takeStale_changes b t
  · intro k hk t ht
    refine ht.trans ?_
    simp only [List.mem_cons, List.not_mem_nil, or_false] at hk
    rcases hk with rfl | rfl | rfl | rfl | rfl | rfl
    · exact takeExpiries_changes t
    · exact takeBoundary_changes t
    · exact takeCooling_changes t
    · exact takeConversion_changes t
    · exact takeLoopTimer_changes t
    · exact resolveLights_changes t

theorem tick_changes (pins : Pins) (l : LightsOrder) (s : State) : Changes s (tick pins l s) := by
  have counted : Changes s (countTick pins (completeTick s)) := 
    (completeTick_changes s).trans (countTick_changes pins _)
  rw [tick_eq]
  split
  · exact counted.trans (resolveLights_changes _)
  · exact counted.tail (.display _ _ true)

/-! ### The commands -/

theorem holdPart_changes (s : State) : Changes s (holdPart s) := by
  have l : Changes s { s with
      io := { s.io with out := outputsOff (Vector.replicate 8 255) }
      loop := { s.loop with receiver := .discard, frameEnd := none, tx := idleTx, sent := .idle } } :=
    (Change.pins { s.io with out := outputsOff (Vector.replicate 8 255) }).changes.tail
      (.loop { s.loop with receiver := .discard, frameEnd := none, tx := idleTx, sent := .idle } ⟨rfl, rfl, rfl⟩)
  exact l.trans (emptyFrame_changes _)

theorem execResetTriggerEnd_changes {trigger : ResetTrigger} {s t : State} (h : execResetTriggerEnd trigger s = .next t) :
    Changes s t := by
  have ended : ∀ u : State, Changes s u → ∀ c,
      (if u.inReset = true then .next u else .next (fullReset c u) : Out) = .next t → Changes s t := by
    intro u hu c h
    split at h <;> cases h
    · exact hu
    · exact hu.tail (.reset c)
  unfold execResetTriggerEnd at h
  split at h
  · cases trigger with
    | powerOn => exact ended _ (Change.triggers { s.rst with powerOn := false } rfl).changes _ h
    | pin => exact ended _ (Change.triggers { s.rst with pin := false } rfl).changes _ h
  · cases h
    exact .refl

/-- A command of the part as a whole, taken where it is due. -/
theorem liveRow_changes {due : State → Bool} {k : State → State} (hk : ∀ s, Changes s (k s)) {s t : State}
    (h : live s (fun s => if due s = true then k s else s) = .next t) : Changes s t := by
  refine live_kept (P := Changes s) (fun u hu => ?_) .refl h
  split
  · exact hu.trans (hk u)
  · exact hu

/-- A row of a bay line. -/
theorem bayRow_changes {k : BayIx → State → State} (hk : ∀ b s, s.populated b = true → Changes s (k b s)) {n : Nat}
    {s t : State} (h : onBay n s k = .next t) : Changes s t :=
  onBay_kept (P := Changes s) (fun b u hu hb => hu.trans (hk b u hb)) .refl h

/-- Every command goes where elementary changes go: by its bay line, by its destination, or row by row. -/
theorem exec_changes {c : Instr} {s t : State} (h : exec c s = .next t) : Changes s t := by
  cases c with
  | timebaseTick pins l =>
    change execTimebaseTick pins l s = _ at h
    unfold execTimebaseTick at h
    split at h
    · rw [← Host.Outcome.next.inj h]
      exact (Change.pins { s.io with pins := pins }).changes
    · rw [← Host.Outcome.next.inj h]
      exact tick_changes pins l s
  | presenceActive bay => exact bayRow_changes (k := takePresenceActive) (fun b u hb => takePresenceActive_changes b (.inl hb)) h
  | presenceLoss bay => exact bayRow_changes (k := takePresenceLoss) (fun b u hb => takePresenceLoss_changes b (.inl hb)) h
  | powerGoodSeen bay => exact bayRow_changes (k := takePowerGoodSeen) (fun b u hb => takePowerGoodSeen_changes b (.inl hb)) h
  | powerGoodLost bay => exact bayRow_changes (k := takePowerGoodLost) (fun b u hb => takePowerGoodLost_changes b (.inl hb)) h
  | switchFault bay => exact bayRow_changes (k := takeSwitchFault) (fun b u hb => takeSwitchFault_changes b (.inl hb)) h
  | driveActivityEdge bay => exact bayRow_changes (k := takeEdge) (fun b u hb => takeEdge_changes b (.inl hb)) h
  | tachPulse fan => exact onFan_kept (P := Changes s) (k := countTach) (fun f u hu => hu.trans (setFan_changes f _ u)) .refl h
  | debounceExpiry bay =>
    refine bayRow_changes (k := fun b s => if debounceDue s b then takeExpiries s else s) (fun b u _ => ?_) h
    split
    · exact takeExpiries_changes u
    · exact .refl
  | drainExpiry bay =>
    refine bayRow_changes (k := fun b s => if drainDue s b then takeExpiries s else s) (fun b u _ => ?_) h
    split
    · exact takeExpiries_changes u
    · exact .refl
  | surgeDeadline bay => exact bayRow_changes (k := takeSurgeDeadline) (fun b u hb => takeSurgeDeadline_changes b (.inl hb)) h
  | powerGoodDeadline bay => exact bayRow_changes (k := takePgDeadline) (fun b u hb => takePgDeadline_changes b (.inl hb)) h
  | resetHoldExpiry bay => exact bayRow_changes (k := takeResetHold) (fun b u hb => takeResetHold_changes b (.inl hb)) h
  | staggerBoundary => exact liveRow_changes takeBoundary_changes h
  | coolingUpdate => exact liveRow_changes takeCooling_changes h
  | conversionEnd => exact liveRow_changes (due := fun s => s.scan.slotDue) takeConversion_changes h
  | temperatureStale bay => exact bayRow_changes (k := takeStale) (fun b u _ => takeStale_changes b u) h
  | loopTimerExpiry => exact liveRow_changes takeLoopTimer_changes h
  | activityStretchExpiry bay => exact bayRow_changes (k := takeStretch) (fun b u hb => takeStretch_changes b (.inl hb)) h
  | loopSymbol bits =>
    change execLoopSymbol bits s = _ at h
    unfold execLoopSymbol at h
    split at h
    · cases h
      exact .refl
    · split at h <;> cases h
      · exact (Change.loop { s.loop with sent := .idle } ⟨rfl, rfl, rfl⟩).changes
      · exact takeSymbol_changes _ s
  | goodFrameEnd =>
    refine live_kept (P := Changes s) (k := fun s => if s.loop.frameEnd = some true then goodEnd s else s) (fun u hu => ?_) .refl h
    split
    · exact hu.trans (goodEnd_changes u)
    · exact hu
  | badCheckFrameEnd =>
    refine live_kept (P := Changes s) (k := fun s => if s.loop.frameEnd = some false then badEnd s else s) (fun u hu => ?_) .refl h
    split
    · exact hu.trans (badEnd_changes u)
    · exact hu
  | loopBreak =>
    change execLoopBreak s = _ at h
    unfold execLoopBreak at h
    split at h <;> cases h
    · exact (Change.loop { s.loop with clock := false } ⟨rfl, rfl, rfl⟩).changes
    · exact (takeFrameEnd_changes s).trans (breakLoop_changes _)
  | loopClockReturn =>
    change execLoopClockReturn s = _ at h
    unfold execLoopClockReturn at h
    split at h <;> cases h
    · exact .refl
    · exact (Change.loop { s.loop with clock := true, receiver := .discard } ⟨rfl, rfl, rfl⟩).changes
  | identify => exact messageRow_changes msgIdentify_goes h
  | bayRead => exact messageRow_changes (msgBayRead_goes _) h
  | bayPowerOn => exact messageRow_changes (msgIntent_goes _ _) h
  | bayPowerExpedite => exact messageRow_changes (msgExpedite_goes _) h
  | bayPowerOff => exact messageRow_changes (msgIntent_goes _ _) h
  | bayPowerRelease => exact messageRow_changes (msgIntent_goes _ _) h
  | bayPowerCycle => exact messageRow_changes (msgCycle_goes _) h
  | bayPowerClear => exact messageRow_changes (msgClear_goes _) h
  | bayReset => exact messageRow_changes (msgBayReset_goes _) h
  | bayClass => exact messageRow_changes (msgBayClass_goes _ _) h
  | attentionClear => exact messageRow_changes (msgAttentionClear_goes _ _ _) h
  | attentionMask => exact messageRow_changes (msgAttentionMask_goes _ _ _ _) h
  | indicatorHold => exact messageRow_changes (msgIndicatorHold_goes _ _ _) h
  | indicatorHoldRelease => exact messageRow_changes (msgHold_goes _ _ _) h
  | blinkSync => exact messageRow_changes msgBlinkSync_goes h
  | driveTemperature => exact messageRow_changes (msgDriveTemperature_goes _ _ _ _) h
  | tableWindow => exact messageRow_changes (msgTableWindow_goes _ _ _) h
  | tablePut => exact messageRow_changes (msgTablePut_goes _ _) h
  | tableGet => exact messageRow_changes (msgTableGet_goes _) h
  | curveActivate => exact messageRow_changes (msgCurveActivate_goes _) h
  | powerRead => exact messageRow_changes (msgPowerRead_goes _) h
  | queueRead => exact messageRow_changes (msgQueueRead_goes _) h
  | fanRead => exact messageRow_changes (msgFanRead_goes _) h
  | sensorRead => exact messageRow_changes (msgSensorRead_goes _) h
  | zoneRead => exact messageRow_changes (msgZoneRead_goes _) h
  | partResetLoop => exact messageRow_changes msgResetLoop_goes h
  | partResetTables => exact messageRow_changes msgResetTables_goes h
  | partResetFull => exact messageRow_changes msgResetFull_goes h
  | powerOnReset =>
    cases h
    exact (Change.triggers { s.rst with powerOn := true, sawPowerOn := true } rfl).changes.trans (holdPart_changes _)
  | resetPin =>
    cases h
    exact (Change.triggers { s.rst with pin := true } rfl).changes.trans (holdPart_changes _)
  | resetTriggerEnd trigger => exact execResetTriggerEnd_changes h

/-- A step goes where elementary changes go. -/
theorem step_changes {s t : State} (h : step s = .next t) : Changes s t :=
  step_kept (P := Changes s) (fun _ l hu => hu.tail (.pending l)) (fun _ _ _ hu hc => hu.trans (exec_changes hc)) .refl h

/-- A property kept by every elementary change is kept by every step. -/
theorem step_keeps {P : State → Prop} (hP : ∀ s t, Change s t → P s → P t) {s t : State} (hs : P s)
    (h : step s = .next t) : P t := (step_changes h).kept hP hs

end Sys2Proof.Machine
end

section
/-! PROOFS. The invariants of the bay records, each by the elementary changes of a step. -/

namespace Sys2Proof.Machine

open Sys2Proof.Safety

/-! ### Reads after a change -/

theorem State.bay_changed (s : State) (b c : BayIx) (x : Bay) (t : Option TempRec) :
    ((s.setBay b x).setTemp b t).bay c = if c = b then x else s.bay c := by
  split
  · subst c
    simp
  · simp [*]

theorem State.temp_changed (s : State) (b c : BayIx) (x : Bay) (t : Option TempRec) :
    ((s.setBay b x).setTemp b t).temp c = if c = b then t else s.temp c := by
  split
  · subst c
    simp
  · simp [*]

@[simp] theorem bay_fullReset (cause : ResetCause) (s : State) (b : BayIx) : (fullReset cause s).bay b = defaultBay := by
  simp [fullReset, State.reset, State.bay, Vector.get_eq_getElem]

@[simp] theorem temp_fullReset (cause : ResetCause) (s : State) (b : BayIx) : (fullReset cause s).temp b = none := by
  simp [fullReset, State.reset, State.temp, Vector.get_eq_getElem]

/-! ### A bay record agrees with its state (R2, R25, R26, R95) -/

theorem Bay.drainRunning_iff (x : Bay) : x.drainRunning = true ↔ x.drain ≠ 0 ∨ x.drainDue = true := by
  simp [Bay.drainRunning]

theorem DrainOver.spec {x : Bay} {d : Bool} (h : DrainOver x d)
    (hr : x.drainRunning = true → x.state = .drain ∨ x.state = .fault) (hd : x.drainDue = true → x.drain = 0) :
    d = false ∧ x.drain = 0 := by
  rw [Bay.drainRunning_iff] at hr
  rcases h with ⟨h, rfl⟩ | ⟨rfl, h⟩
  · exact ⟨rfl, hd h⟩
  · rw [Bay.drainRunning_iff] at h
    by_cases hx : x.drain ≠ 0 ∨ x.drainDue = true
    · exact absurd (hr hx) (by simp [h hx])
    · simpa using (not_or.mp hx).symm

/-- What an event makes of a bay record agrees with its state (R2, R25, R26, R95). -/
theorem RecordMove.bayMatches {classes : ClassIx → DriveClass} {x y : Bay} {t u : Option TempRec}
    (h : RecordMove classes x t y u) (hx : BayMatches x t) : BayMatches y u := by
  obtain ⟨hcause, hspin, hdeb, hhold, hrem, hrun, hdue, hun, hidle, hcls, htemp⟩ := hx
  cases h with
  | settle n d h hd =>
    obtain ⟨rfl, h0⟩ := hd.spec hrun hdue
    grind [startSettling, Bay.drainRunning]
  | empty d h hd =>
    obtain ⟨rfl, h0⟩ := hd.spec hrun hdue
    rw [Bay.unpowered_iff] at h
    grind [emptied, Bay.drainRunning]
  | idle cls d r hc h hd hr =>
    obtain ⟨rfl, h0⟩ := hd.spec hrun hdue
    grind [Bay.drainRunning]
  | cut n c h hc | drain n r p h =>
    rw [Bay.powered_iff] at h
    grind [faulted, unpowered, Bay.drainRunning]
  | fault c cls d r hc h hs hd hr =>
    rw [Bay.unpowered_iff] at h
    grind [faulted, Bay.drainRunning]
  | mark | present | absent | removed | expired => grind [Bay.drainRunning]
  | queue | unqueue | reclass | spinUp => grind [Bay.drainRunning]
  | spin | run | hold | clear | store | judge => grind [Bay.drainRunning]

/-- A tick counts the timers of a record down and keeps it in agreement with its state. -/
theorem Bay.tick_matches {x : Bay} {t : Option TempRec} (h : BayMatches x t) : BayMatches x.tick (t.map TempRec.tick) := by
  obtain ⟨hcause, hspin, hdeb, hhold, hrem, hrun, hdue, hun, hidle, hcls, htemp⟩ := h
  rw [Bay.drainRunning_iff] at hrun
  refine ⟨hcause, hspin, ?_, ?_, hrem, ?_, ?_, hun, hidle, hcls, ?_⟩
  · simpa [Bay.tick] using hdeb
  · simpa [Bay.tick] using hhold
  · rw [Bay.drainRunning_iff]
    intro h
    refine hrun ?_
    simp only [Bay.tick, Bool.or_eq_true, beq_iff_eq] at h
    rcases h with h | h | h
    · exact .inl (by omega)
    · exact .inr h
    · exact .inl (by omega)
  · intro h
    simp only [Bay.tick, Bool.or_eq_true, beq_iff_eq] at h ⊢
    rcases h with h | h
    · rw [hdue h]
    · omega
  · simpa [Bay.tick] using htemp

theorem defaultBay_matches : BayMatches defaultBay none := by
  simp [BayMatches, defaultBay, Bay.drainRunning]

theorem Change.baysMatch {s t : State} (h : Change s t) (hs : BaysMatch s) : BaysMatch t := by
  cases h
  case bay b x r _ h =>
    intro c
    rw [State.bay_changed, State.temp_changed]
    split
    · exact h.bayMatches (hs b)
    · exact hs c
  case counted hb ht _ =>
    intro c
    have m := Bay.tick_matches (hs c)
    rw [← hb, ← ht] at m
    exact m
  case reset cause =>
    intro c
    rw [bay_fullReset, temp_fullReset]
    exact defaultBay_matches
  all_goals exact hs

/-! ### Presence (R10, R26, R28) -/

/-- R10, R26, R28, for one record. -/
def PresenceFits (x : Bay) : Prop :=
  (x.state = .empty → x.presence = false) ∧ (x.presence = false → x.state = .empty ∨ x.state = .drain)

theorem RecordMove.presenceFits {classes : ClassIx → DriveClass} {x y : Bay} {t u : Option TempRec}
    (h : RecordMove classes x t y u) (hx : PresenceFits x) : PresenceFits y := by
  obtain ⟨he, hp⟩ := hx
  cases h with
  | cut n c h hc | drain n r p h =>
    rw [Bay.powered_iff] at h
    grind [PresenceFits, faulted, unpowered]
  | fault c cls d r hc h hs hd hr =>
    rw [Bay.unpowered_iff] at h
    grind [PresenceFits, faulted]
  | settle => grind [PresenceFits, startSettling]
  | empty => grind [PresenceFits, emptied]
  | mark | present | absent | removed | expired | idle => grind [PresenceFits]
  | queue | unqueue | reclass | spinUp => grind [PresenceFits]
  | spin | run | hold | clear | store | judge => grind [PresenceFits]

theorem Change.presenceMatches {s t : State} (h : Change s t) (hs : PresenceMatches s) : PresenceMatches t := by
  cases h
  case bay b x r _ h =>
    intro c
    rw [State.bay_changed]
    split
    · exact h.presenceFits (hs b)
    · exact hs c
  case counted hb _ _ =>
    intro c
    have m : PresenceFits (s.bay c).tick := hs c
    rw [← hb] at m
    exact m
  case reset cause =>
    intro c
    rw [bay_fullReset]
    exact ⟨fun _ => rfl, fun _ => .inl rfl⟩
  all_goals exact hs

/-! ### The drain interval (R9) -/

theorem Change.drainSetting {s t : State} (h : Change s t) (hs : 100 ≤ s.sup.drainSetting) :
    100 ≤ t.sup.drainSetting := by
  cases h
  case timing hr => exact hr.1
  case reset => simp [fullReset, State.reset, defaultDrain]
  all_goals exact hs

/-- Settles O56: every elementary change keeps each of the three. -/
theorem baysMatchKept : Obligations.BaysMatchKept := fun _ _ h =>
  ⟨fun hs hd => ⟨step_keeps (fun _ _ => Change.baysMatch) hs h, step_keeps (fun _ _ => Change.drainSetting) hd h⟩,
    fun hs => step_keeps (fun _ _ => Change.presenceMatches) hs h⟩

end Sys2Proof.Machine
end

section
/-! PROOFS. Absent bays stay as a full reset leaves them: no elementary change of a step names one. -/

namespace Sys2Proof.Machine

open Sys2Proof.Safety

theorem populated_of_named {s : State} (h : AbsentStayDefault s) {b : BayIx} (hb : Named s b) :
    s.populated b = true := by
  rcases hb with hb | ⟨q, hq, rfl⟩
  · exact hb
  · by_contra hp
    obtain ⟨_, _, _, _, _, hr⟩ := h q.1 (by simpa using hp)
    exact hr q hq rfl

theorem populated_of_concerned {s : State} (h : AbsentStayDefault s) {b : BayIx} (hb : Concerned s b) :
    s.populated b = true := by
  rcases hb with hb | hb | hb
  · exact populated_of_named h hb
  all_goals
    by_contra hp
    obtain ⟨hbay, htemp, _⟩ := h b (by simpa using hp)
  · simp [hbay, defaultBay] at hb
  · simp [htemp] at hb

theorem fullReset_absentStayDefault (cause : ResetCause) (s : State) : AbsentStayDefault (fullReset cause s) := by
  intro b _
  refine ⟨bay_fullReset cause s b, temp_fullReset cause s b, ?_, get_noSlots b, get_noSlots b, ?_⟩
  · simp [fullReset, State.reset, State.bayLights, Vector.get_eq_getElem]
  · simp [fullReset, State.reset, emptyFrame]

theorem Change.absentStayDefault {s t : State} (h : Change s t) (hs : AbsentStayDefault s) : AbsentStayDefault t := by
  cases h
  case bay b x r hb h =>
    intro c hc
    have hcb : c ≠ b := by
      rintro rfl
      exact absurd (populated_of_concerned hs hb) (by simpa using hc)
    rw [State.bay_changed, State.temp_changed, if_neg hcb, if_neg hcb]
    exact hs c hc
  case bayLights b x hb =>
    intro c hc
    have hcb : c ≠ b := by
      rintro rfl
      exact absurd (populated_of_named hs hb) (by simpa using hc)
    rw [State.bayLights_setBayLights_other _ _ hcb]
    exact hs c hc
  case releases xs h =>
    intro c hc
    obtain ⟨hbay, htemp, hl, rest⟩ := hs c hc
    refine ⟨hbay, htemp, (h c).trans ?_, rest⟩
    rw [hl]
    rfl
  case loop x h =>
    obtain ⟨hm, hf, _⟩ := h
    intro c hc
    obtain ⟨hbay, htemp, hl, hmap, hframe, hreq⟩ := hs c hc
    exact ⟨hbay, htemp, hl, hm ▸ hmap, hf ▸ hframe, hf ▸ hreq⟩
  case mapped m k h =>
    intro c hc
    obtain ⟨hbay, htemp, hl, _, rest⟩ := hs c hc
    exact ⟨hbay, htemp, hl, h c hc, rest⟩
  case frame f h =>
    obtain ⟨hm, hr⟩ := h
    intro c hc
    obtain ⟨hbay, htemp, hl, hmap, hframe, hreq⟩ := hs c hc
    exact ⟨hbay, htemp, hl, hmap, hm ▸ hframe, hr ▸ hreq⟩
  case noFrame f h =>
    obtain ⟨hm, hr⟩ := h
    intro c hc
    obtain ⟨hbay, htemp, hl, hmap, _⟩ := hs c hc
    exact ⟨hbay, htemp, hl, hmap, hm c, hr ▸ by simp⟩
  case fixed m h =>
    intro c hc
    obtain ⟨hbay, htemp, hl, hmap, hframe, hreq⟩ := hs c hc
    refine ⟨hbay, htemp, hl, hmap, ?_, hreq⟩
    rcases h c with h | h
    · exact h.trans hmap
    · exact h
  case captured b q h =>
    intro c hc
    obtain ⟨hbay, htemp, hl, hmap, hframe, hreq⟩ := hs c hc
    refine ⟨hbay, htemp, hl, hmap, hframe, fun p hp => ?_⟩
    rcases List.mem_append.mp hp with hp | hp
    · exact hreq p hp
    · rw [List.mem_singleton.mp hp]
      rintro rfl
      exact h hframe
  case triggers x h =>
    intro c hc
    unfold State.populated at hc
    rw [h] at hc
    exact hs c hc
  case counted bs ts ls hb ht hl =>
    intro c hc
    obtain ⟨hbay, htemp, hlights, rest⟩ := hs c hc
    obtain ⟨e, he, hf⟩ := hl c
    refine ⟨(hb c).trans ?_, (ht c).trans ?_, he.trans ?_, rest⟩
    · rw [hbay]
      rfl
    · rw [htemp]
      rfl
    · rw [hlights, hf hc]
      rfl
  case reset cause => exact fullReset_absentStayDefault cause s
  all_goals exact hs

/-- Settles O57: no elementary change of a step names an absent bay. -/
theorem absentStayDefaultKept : Obligations.AbsentStayDefaultKept := fun _ _ hs _ h =>
  step_keeps (fun _ _ => Change.absentStayDefault) hs h

end Sys2Proof.Machine
end

section
/-! PROOFS. The readings, levels, entries and settings stay in their ranges, each by the elementary changes of a step. -/

namespace Sys2Proof.Machine

open Sys2Proof.Safety

/-! ### Drive levels (R129 to R133) -/

theorem breatheLevel_le (e : Nat) : breatheLevel e ≤ 15 := by
  unfold breatheLevel
  split <;> omega

/-- A pattern's level is at most 15 where the brightness is (R132, R133). -/
theorem levelOf_le {n : Nat} (h : n ≤ 15) (e : Nat) (phase : StretchPhase) (p : Pattern) : levelOf n e phase p ≤ 15 := by
  have hb : n * breatheLevel e ≤ 15 * 15 := Nat.mul_le_mul h (breatheLevel_le e)
  cases p <;> simp only [levelOf]
  case breathe => omega
  case slow | fast | wink | activity => split <;> omega
  all_goals omega

theorem bayLevels_le {s : State} (h : s.ind.brightness ≤ 15) (b : BayIx) :
    (bayLevels s b).activity ≤ 15 ∧ (bayLevels s b).locate ≤ 15 ∧ (bayLevels s b).fault ≤ 15 := by
  unfold bayLevels
  split
  · exact ⟨levelOf_le h .., levelOf_le h .., levelOf_le h ..⟩
  · simp [dark]

theorem fullReset_lightsInRange (cause : ResetCause) (s : State) : LightsInRange (fullReset cause s) := by
  refine ⟨by simp [fullReset, State.reset, defaultBrightness], by simp [fullReset, State.reset], fun b => ?_⟩
  simp [fullReset, State.reset, Vector.get_eq_getElem, dark]

theorem Change.lightsInRange {s t : State} (h : Change s t) (hs : LightsInRange s) : LightsInRange t := by
  cases h
  case brightness n h => exact ⟨h, hs.2⟩
  case epoch => exact ⟨hs.1, Nat.zero_le _, hs.2.2⟩
  case resolved l e due hl he =>
    refine ⟨hs.1, he, fun b => ?_⟩
    show (l.get b).activity ≤ 15 ∧ (l.get b).locate ≤ 15 ∧ (l.get b).fault ≤ 15
    rw [hl]
    exact bayLevels_le hs.1 b
  case reset cause => exact fullReset_lightsInRange cause s
  all_goals exact hs

/-! ### Readings and streaks (R78, R86, R90 to R92, R95) -/

/-- R86: a channel record, with the span that scales its readings. -/
def ChannelInRange (ch : ChannelIx) (x : Channel) : Prop :=
  x.raw ≤ 4095 ∧ x.corrected ≤ 4095 ∧
    (if ch = 8 then 0 ≤ x.value ∧ x.value ≤ 65535 else -80 ≤ x.value ∧ x.value ≤ 255)

/-- R78: the streaks of the supply monitor. -/
def StreaksInRange (x : PowerAccount) : Prop :=
  x.overStreak ≤ 3 ∧ x.clearStreak ≤ 3 ∧ (x.overStreak = 0 ∨ x.clearStreak = 0)

theorem readingsInRange_iff (s : State) :
    ReadingsInRange s ↔
      (∀ ch, ChannelInRange ch (s.channel ch)) ∧ (∀ ch, (s.sensor ch).span ≤ 65535) ∧
        (∀ b, ∀ t ∈ s.temp b, TempInRange t) ∧ StreaksInRange s.acct := by
  constructor
  · rintro ⟨hch, h0, h1, ht, hstreaks⟩
    refine ⟨fun ch => ⟨(hch ch).1, (hch ch).2.1, ?_⟩, fun ch => (hch ch).2.2.1, ht, hstreaks⟩
    split
    · subst ch
      exact ⟨h0, h1⟩
    · exact (hch ch).2.2.2 ‹_›
  · rintro ⟨hch, hspan, ht, hstreaks⟩
    obtain ⟨_, _, h8⟩ := hch 8
    rw [if_pos rfl] at h8
    refine ⟨fun ch => ⟨(hch ch).1, (hch ch).2.1, hspan ch, fun h => ?_⟩, h8.1, h8.2, ht, hstreaks⟩
    obtain ⟨_, _, hv⟩ := hch ch
    rwa [if_neg h] at hv

theorem correct_le {raw : Nat} (c : SensorCfg) (h : raw ≤ 4095) : correct c raw ≤ 4095 := by
  unfold correct
  split <;> omega

theorem convert_inRange {raw : Nat} (ch : ChannelIx) {c : SensorCfg} (h : raw ≤ 4095) (hc : c.span ≤ 65535) :
    ChannelInRange ch (convert ch c raw) := by
  have hr := correct_le c h
  have hm : correct c raw * c.span ≤ 4095 * 65535 := Nat.mul_le_mul hr hc
  unfold convert ChannelInRange
  split
  · refine ⟨h, hr, Int.natCast_nonneg _, ?_⟩
    dsimp only
    omega
  · refine ⟨h, hr, ?_⟩
    dsimp only [clampInt]
    omega

theorem judge_inRange {x : PowerAccount} (m : Int) : StreaksInRange (x.judge m) := by
  unfold PowerAccount.judge StreaksInRange
  split
  · exact ⟨Nat.min_le_left .., Nat.zero_le _, .inr rfl⟩
  · exact ⟨Nat.zero_le _, Nat.min_le_left .., .inl rfl⟩

theorem State.channel_changed (s : State) (ch c : ChannelIx) (x : Channel) :
    (s.setChannel ch x).channel c = if c = ch then x else s.channel c := by
  split
  · subst c
    simp
  · simp [*]

/-- A property of every member is kept by a write of a member that has it. -/
theorem Vector.forall_get_set {α : Type} {n : Nat} {P : α → Prop} {v : Vector α n} {i : Fin n} {x : α}
    (h : ∀ j, P (v.get j)) (hx : P x) (j : Fin n) : P ((v.set i x).get j) := by
  rw [Vector.get_eq_getElem, Vector.getElem_set]
  split
  · exact hx
  · exact h j

theorem RecordMove.tempInRange {classes : ClassIx → DriveClass} {x y : Bay} {t u : Option TempRec}
    (h : RecordMove classes x t y u) (ht : ∀ r ∈ t, TempInRange r) : ∀ r ∈ u, TempInRange r := by
  cases h with
  | store r _ hr => simpa using hr
  | judge r hot stale h => simpa [TempInRange] using ht r h
  | drain | cut => simp
  | _ => exact ht

theorem TempRec.tick_inRange {t : TempRec} (h : TempInRange t) : TempInRange t.tick :=
  ⟨h.1, h.2.1, Nat.min_le_left ..⟩

theorem fullReset_readingsInRange (cause : ResetCause) (s : State) : ReadingsInRange (fullReset cause s) := by
  rw [readingsInRange_iff]
  refine ⟨fun ch => ?_, fun ch => ?_, fun b => ?_, ?_⟩
  · have : (fullReset cause s).channel ch = defaultChannel := by
      simp [fullReset, State.reset, State.channel, Vector.get_eq_getElem]
    rw [this]
    simp [ChannelInRange, defaultChannel]
  · have : (fullReset cause s).sensor ch = defaultSensor ch := by
      simp [fullReset, State.reset, State.sensor, defaultSensors, Vector.get_eq_getElem]
    rw [this]
    exact (defaultSensor_inRange ch).2.1
  · simp
  · simp [fullReset, State.reset, StreaksInRange]

theorem Change.readingsInRange {s t : State} (h : Change s t) (hs : ReadingsInRange s) : ReadingsInRange t := by
  rw [readingsInRange_iff] at hs ⊢
  obtain ⟨hch, hspan, htemp, hstreaks⟩ := id hs
  cases h
  case bay b x r _ h =>
    refine ⟨hch, hspan, fun c => ?_, hstreaks⟩
    rw [State.temp_changed]
    split
    · exact h.tempInRange (htemp b)
    · exact htemp c
  case judged m => exact ⟨hch, hspan, htemp, judge_inRange m⟩
  case power => exact ⟨hch, hspan, htemp, hstreaks⟩
  case reserve => exact ⟨hch, hspan, htemp, hstreaks⟩
  case latched ch raw h =>
    refine ⟨fun c => ?_, hspan, htemp, hstreaks⟩
    rw [State.channel_changed]
    split
    · subst c
      exact convert_inRange ch h (hspan ch)
    · exact hch c
  case unread ch =>
    refine ⟨fun c => ?_, hspan, htemp, hstreaks⟩
    rw [State.channel_changed]
    split
    · subst c
      exact hch ch
    · exact hch c
  case sensorEntry ch c h =>
    exact ⟨hch, Vector.forall_get_set (P := fun c : SensorCfg => c.span ≤ 65535) hspan h.2.1, htemp, hstreaks⟩
  case counted ht _ =>
    refine ⟨hch, hspan, fun b => ?_, hstreaks⟩
    have hb : ∀ r ∈ (s.temp b).map TempRec.tick, TempInRange r := by
      simp only [Option.mem_def, Option.map_eq_some_iff]
      rintro _ ⟨r, hr, rfl⟩
      exact TempRec.tick_inRange (htemp b r hr)
    rw [← ht] at hb
    exact hb
  case reset cause => exact (readingsInRange_iff _).mp (fullReset_readingsInRange cause s)
  all_goals exact hs

/-! ### The entries of the tables (R5, R29, R38, R89, R105, R109, R117) -/

theorem entriesInRange_iff (s : State) :
    EntriesInRange s ↔
      (∀ c, ClassInRange (s.driveClass c)) ∧ (∀ b, (s.bay b).retries ≤ 3) ∧
        (∀ b, slotInRange (s.bayCfg b).slot = true) ∧
        ((∀ i, PointInRange (s.cool.pendingCurves.get i)) ∧ ∀ i, PointInRange (s.cool.activeCurves.get i)) ∧
        (∀ z, ZoneCfgInRange (s.zoneCfg z)) ∧ (∀ ch, SensorInRange (s.sensor ch)) ∧ ∀ f, FanCfgInRange (s.fanCfg f) := by
  constructor
  · rintro ⟨hclass, hbay, hpoints, hzone, hsensor, hfan⟩
    exact ⟨hclass, fun b => (hbay b).1, fun b => (hbay b).2, ⟨fun i => (hpoints i).1, fun i => (hpoints i).2⟩, hzone,
      hsensor, hfan⟩
  · rintro ⟨hclass, hretries, hslot, ⟨hpending, hactive⟩, hzone, hsensor, hfan⟩
    exact ⟨hclass, fun b => ⟨hretries b, hslot b⟩, fun i => ⟨hpending i, hactive i⟩, hzone, hsensor, hfan⟩

theorem RetriesAllowed.le {classes : ClassIx → DriveClass} {x : Bay} {r : Nat} (h : RetriesAllowed classes x r)
    (hc : ∀ k, ClassInRange (classes k)) (hx : x.retries ≤ 3) : r ≤ 3 := by
  rcases h with rfl | rfl | ⟨rfl, k, _, h⟩
  · exact hx
  · omega
  · obtain ⟨_, _, _, _, _, _, _, hl, _⟩ := hc k
    omega

theorem RecordMove.retries_le {classes : ClassIx → DriveClass} {x y : Bay} {t u : Option TempRec}
    (h : RecordMove classes x t y u) (hc : ∀ k, ClassInRange (classes k)) (hx : x.retries ≤ 3) : y.retries ≤ 3 := by
  cases h with
  | idle _ _ _ _ _ _ hr => exact hr.le hc hx
  | fault _ _ _ _ _ _ _ _ hr => exact hr.le hc hx
  | empty | clear => exact Nat.zero_le _
  | _ => exact hx

theorem State.bayCfg_changed (s : State) (b c : BayIx) (x : BayCfg) :
    (s.setBayCfg b x).bayCfg c = if c = b then x else s.bayCfg c := by
  split
  · subst c
    simp
  · simp [*]

theorem fullReset_entriesInRange (cause : ResetCause) (s : State) : EntriesInRange (fullReset cause s) := by
  rw [entriesInRange_iff]
  refine ⟨defaultClasses_inRange, fun b => ?_, defaultCfg_inRange _, ⟨defaultCurves_inRange, defaultCurves_inRange⟩,
    fun z => ?_, fun ch => ?_, defaultFanCfg_inRange⟩
  · rw [bay_fullReset]
    exact Nat.zero_le _
  · have : (fullReset cause s).zoneCfg z = defaultZoneCfg := by
      simp [fullReset, State.reset, State.zoneCfg, Vector.get_eq_getElem]
    rw [this]
    decide
  · have : (fullReset cause s).sensor ch = defaultSensor ch := by
      simp [fullReset, State.reset, State.sensor, defaultSensors, Vector.get_eq_getElem]
    rw [this]
    exact defaultSensor_inRange ch

theorem Change.entriesInRange {s t : State} (h : Change s t) (hs : EntriesInRange s) : EntriesInRange t := by
  rw [entriesInRange_iff] at hs ⊢
  obtain ⟨hclass, hretries, hslot, ⟨hpending, hactive⟩, hzone, hsensor, hfan⟩ := id hs
  cases h
  case bay b x r _ h =>
    refine ⟨hclass, fun c => ?_, hslot, ⟨hpending, hactive⟩, hzone, hsensor, hfan⟩
    rw [State.bay_changed]
    split
    · exact h.retries_le hclass (hretries b)
    · exact hretries c
  case bayTable h => exact ⟨hclass, hretries, h, ⟨hpending, hactive⟩, hzone, hsensor, hfan⟩
  case bayEntry b c h =>
    refine ⟨hclass, hretries, fun d => ?_, ⟨hpending, hactive⟩, hzone, hsensor, hfan⟩
    rw [State.bayCfg_changed]
    split
    · exact h (hslot b)
    · exact hslot d
  case scheduler x h =>
    refine ⟨fun c => ?_, hs.2⟩
    show ClassInRange (x.classes.get c)
    rw [h]
    exact hclass c
  case classTable h => exact ⟨h, hs.2⟩
  case classEntry h => exact ⟨Vector.forall_get_set hclass h, hs.2⟩
  case zoneTable h => exact ⟨hclass, hretries, hslot, ⟨hpending, hactive⟩, h, hsensor, hfan⟩
  case zoneEntry h =>
    exact ⟨hclass, hretries, hslot, ⟨hpending, hactive⟩, Vector.forall_get_set hzone h, hsensor, hfan⟩
  case fanTable h => exact ⟨hclass, hretries, hslot, ⟨hpending, hactive⟩, hzone, hsensor, h⟩
  case fanEntry h =>
    exact ⟨hclass, hretries, hslot, ⟨hpending, hactive⟩, hzone, hsensor, Vector.forall_get_set hfan h⟩
  case points h => exact ⟨hclass, hretries, hslot, ⟨h, hactive⟩, hzone, hsensor, hfan⟩
  case point h =>
    exact ⟨hclass, hretries, hslot, ⟨Vector.forall_get_set hpending h, hactive⟩, hzone, hsensor, hfan⟩
  case curves ps h =>
    refine ⟨hclass, hretries, hslot, ⟨hpending, fun i => ?_⟩, hzone, hsensor, hfan⟩
    rcases h i with h | h
    · exact h ▸ hpending i
    · exact h ▸ hactive i
  case sensorEntry h =>
    exact ⟨hclass, hretries, hslot, ⟨hpending, hactive⟩, hzone, Vector.forall_get_set (P := SensorInRange) hsensor h, hfan⟩
  case counted hb _ _ =>
    refine ⟨hclass, fun c => ?_, hslot, ⟨hpending, hactive⟩, hzone, hsensor, hfan⟩
    have hr : (s.bay c).tick.retries ≤ 3 := hretries c
    rw [← hb] at hr
    exact hr
  case reset cause => exact (entriesInRange_iff _).mp (fullReset_entriesInRange cause s)
  all_goals exact hs

/-! ### The settings of table 9 (R9, R69, R99, R104, R166) -/

theorem fullReset_settingsInRange (cause : ResetCause) (s : State) : SettingsInRange (fullReset cause s) := by
  have hc := strapCeiling_le (sampleStraps s.io.pins.straps).ceilingCode
  refine ⟨?_, ?_, ?_, ?_, hc, ?_⟩ <;> simp [fullReset, State.reset, defaultDebounce, defaultDrain, defaultGuard,
    defaultMargin, defaultStaleness, defaultPeriod, defaultUpStep, defaultDownStep, defaultLoopTimeout]

theorem Change.settingsInRange {s t : State} (h : Change s t) (hs : SettingsInRange s) : SettingsInRange t := by
  obtain ⟨hd, hd', hr, hr', hc, hg, hm, hl, hl', hp, hp', hu, hu', hw, hw', ht, ht'⟩ := id hs
  cases h
  case timing h k => exact ⟨h.1, h.2, k.1, k.2, hs.2.2.2.2⟩
  case power h => exact ⟨hd, hd', hr, hr', h.1, h.2.1, h.2.2, hl, hl', hp, hp', hu, hu', hw, hw', ht, ht'⟩
  case judged m =>
    have e : (s.acct.judge m).ceiling = s.acct.ceiling ∧ (s.acct.judge m).guardBand = s.acct.guardBand ∧
        (s.acct.judge m).margin = s.acct.margin := by
      unfold PowerAccount.judge
      split <;> exact ⟨rfl, rfl, rfl⟩
    obtain ⟨ec, eg, em⟩ := e
    exact ⟨hd, hd', hr, hr', ec ▸ hc, eg ▸ hg, em ▸ hm, hl, hl', hp, hp', hu, hu', hw, hw', ht, ht'⟩
  case staleness h => exact ⟨hd, hd', hr, hr', hc, hg, hm, h.1, h.2, hp, hp', hu, hu', hw, hw', ht, ht'⟩
  case pacing h =>
    obtain ⟨h1, h2, h3, h4, h5, h6⟩ := h
    exact ⟨hd, hd', hr, hr', hc, hg, hm, hl, hl', h1, h2, h3, h4, h5, h6, ht, ht'⟩
  case loop x h =>
    obtain ⟨_, _, h⟩ := h
    exact ⟨hd, hd', hr, hr', hc, hg, hm, hl, hl', hp, hp', hu, hu', hw, hw', h ▸ ht, h ▸ ht'⟩
  case timeout h => exact ⟨hd, hd', hr, hr', hc, hg, hm, hl, hl', hp, hp', hu, hu', hw, hw', h.1, h.2⟩
  case reset cause => exact fullReset_settingsInRange cause s
  all_goals exact hs

/-- Settles O60: every elementary change of a step keeps each of the four. -/
theorem rangesKept : Obligations.RangesKept :=
  ⟨fun _ _ hs h => step_keeps (fun _ _ => Change.readingsInRange) hs h,
    fun _ _ hs h => step_keeps (fun _ _ => Change.lightsInRange) hs h,
    fun _ _ hs h => step_keeps (fun _ _ => Change.entriesInRange) hs h,
    fun _ _ hs h => step_keeps (fun _ _ => Change.settingsInRange) hs h⟩

end Sys2Proof.Machine
end

section
/-! PROOFS. How an event ends, in the terms of the statements, and the events of one bay that the scan and the bay timers
bring. -/

namespace Sys2Proof.Machine

open Sys2Proof.Safety

/-! ### The committed draw after a change of one record (R66, R67) -/

theorem State.committed_mono {s t : State} (h : ∀ b, s.draw b ≤ t.draw b) : s.committed ≤ t.committed :=
  List.sum_le_sum fun b _ => h b

/-- A record that draws at least as much as the one it replaces does not lower the committed draw. -/
theorem State.committed_le_setBay {s : State} {b : BayIx} {x : Bay} (h : s.draw b ≤ (s.setBay b x).draw b) :
    s.committed ≤ (s.setBay b x).committed := by
  refine State.committed_mono fun c => ?_
  by_cases hc : c = b
  · subst hc
    exact h
  · exact (State.draw_congr (s := s) (t := s.setBay b x) rfl (by simp [hc]) (by simp [hc])).ge

theorem settled_eq_of_le {s t : State} (h : s.committed ≤ t.committed) : settled s t = t := if_neg (by omega)

/-- An unpowered bay draws nothing that a change of its record could take away. -/
theorem settled_setBay_unpowered {s : State} {b : BayIx} (h : (s.bay b).powered = false) (x : Bay) :
    settled s (s.setBay b x) = s.setBay b x :=
  settled_eq_of_le (State.committed_le_setBay (by rw [State.draw_unpowered h]; exact Nat.zero_le _))

/-- A change of the other fields of a record leaves what the bay draws. -/
theorem State.draw_setBay_alike {s : State} {b : BayIx} {x : Bay} (hs : x.state = (s.bay b).state)
    (hc : x.cls = (s.bay b).cls) : (s.setBay b x).draw b = s.draw b :=
  State.draw_congr rfl (by simpa using hs) (by simpa using hc)

theorem settled_setBay_alike {s : State} {b : BayIx} {x : Bay} (hs : x.state = (s.bay b).state)
    (hc : x.cls = (s.bay b).cls) : settled s (s.setBay b x) = s.setBay b x :=
  settled_eq_of_le (State.committed_le_setBay (State.draw_setBay_alike hs hc).ge)

/-! ### The end of an event, by what its changes ask for (R49, R58) -/

@[simp] theorem Work.start_setBay (s : State) (b : BayIx) (x : Bay) :
    (Work.start s).setBay b x = Work.start (s.setBay b x) := rfl

@[simp] theorem Work.start_map (s : State) (f : State → State) : (Work.start s).map f = Work.start (f s) := rfl

/-- Changes that keep the account and the zones, and ask for nothing, end as `settled` says. -/
theorem Work.finish_start {s t : State} (ha : t.acct = s.acct) (hz : t.cool.zones = s.cool.zones) :
    (Work.start t).finish s = settled s t := by
  simp [Work.finish, Work.start, Work.entered_nil, fellOrCleared, ha, holdCleared_of_zones_eq hz, settled]

theorem Work.finish_owe (s t : State) : (Work.start t).owe.finish s = attempt t := by
  simp [Work.finish, Work.start, Work.owe]

theorem Work.finish_withdraw (s t : State) (b : BayIx) : ((Work.start t).withdraw b).finish s = attempt (withdrawn b t) := by
  simp [Work.finish, Work.start, Work.withdraw, withdrawn]

theorem filter_eq_allBays (b : BayIx) : allBays.filter (fun c => decide (c = b)) = [b] := by
  revert b
  decide

theorem Work.finish_enterTail (s t : State) (b : BayIx) : ((Work.start t).enterTail b).finish s = attempt (atTail b t) := by
  have e : ((Work.start t).enterTail b).entered = atTail b t := by
    simp [Work.entered, Work.enterTail, Work.start, groupedQueue, filter_eq_allBays, atTail]
  unfold Work.finish
  rw [e]
  simp [Work.enterTail]

theorem Work.finish_enterHead (s t : State) (b : BayIx) : ((Work.start t).enterHead b).finish s = attempt (atHead b t) := by
  have e : ((Work.start t).enterHead b).entered = atHead b t := by
    simp [Work.entered, Work.enterHead, Work.start, groupedQueue, filter_eq_allBays, atHead]
  unfold Work.finish
  rw [e]
  simp [Work.enterHead]

/-- The event of one record's change. -/
theorem finish_setBay (s : State) (b : BayIx) (x : Bay) :
    (Work.start (s.setBay b x)).finish s = settled s (s.setBay b x) :=
  Work.finish_start rfl rfl

theorem removePower_start (s : State) (b : BayIx) (next : BayState) :
    removePower b next (Work.start s) =
      Work.start ((s.setBay b { unpowered s.sup.drainSetting (s.bay b) with state := next }).setTemp b none) := by
  rw [removePower_eq]
  rfl

/-! ### Presence (R10, R11, R14, R15, R19, R24, R28) -/

theorem presenceActive_start (s : State) (b : BayIx) :
    presenceActive b (Work.start s) =
      Work.start (s.setBay b
        (if (s.bay b).state = .empty then
          startSettling (s.sup.debounceSetting * 10) { s.bay b with presence := true }
        else { s.bay b with presence := true })) := by
  unfold presenceActive
  by_cases h : (s.bay b).state = .empty <;> simp [h, enterSettling_eq]

theorem event_presenceActive (s : State) (b : BayIx) :
    event (presenceActive b) s = s.setBay b
      (if (s.bay b).state = .empty then
        startSettling (s.sup.debounceSetting * 10) { s.bay b with presence := true }
      else { s.bay b with presence := true }) := by
  rw [event, presenceActive_start, finish_setBay]
  by_cases h : (s.bay b).state = .empty
  · exact settled_setBay_unpowered (by simp [Bay.powered, h]) _
  · rw [if_neg h]
    exact settled_setBay_alike rfl rfl

/-- A powered bay that goes to DRAIN, its record changed first in fields that draw nothing. -/
theorem finish_removePower_drain (s : State) (b : BayIx) (x : Bay) :
    (removePower b .drain (Work.start (s.setBay b x))).finish s = drained s b x := by
  rw [removePower_start]
  simp only [State.bay_setBay_same, State.setBay_setBay, State.sup_drainSetting_setBay]
  exact Work.finish_start rfl rfl

/-- The record with presence lost, and PRESENCE raised (R32). -/
def Bay.presenceLost (x : Bay) : Bay :=
  { x with presence := false, attn := { x.attn with presence := true } }

/-- What PRESENCE_LOSS makes of the record of a bay that is neither powered nor QUEUED. -/
def Bay.lostUnpowered (x : Bay) : Bay :=
  match x.state with
  | .settling => emptied { x with presence := false }
  | .idle => emptied x.presenceLost
  | .drain => if x.removed then { x with presence := false } else { x.presenceLost with removed := true }
  | .fault =>
    if x.drainRunning then { x.presenceLost with state := .drain, cause := .none, retries := 0, removed := true }
    else emptied x.presenceLost
  | .empty | .queued | .surge | .run => { x with presence := false }

theorem finish_presenceLoss_unpowered {s : State} {b : BayIx} (hp : (s.bay b).powered = false)
    (hq : (s.bay b).state ≠ .queued) :
    (presenceLoss b (Work.start s)).finish s = s.setBay b (s.bay b).lostUnpowered := by
  have e : presenceLoss b (Work.start s) = Work.start (s.setBay b (s.bay b).lostUnpowered) := by
    rw [Bay.unpowered_iff] at hp
    unfold presenceLoss Bay.lostUnpowered
    cases hst : (s.bay b).state <;>
      simp_all [enterEmpty_eq, Bay.presenceLost, Bay.raise, Bay.drainRunning]
    all_goals split <;> simp_all
  rw [e, finish_setBay, settled_setBay_unpowered hp]

theorem finish_presenceLoss_queued {s : State} {b : BayIx} (h : (s.bay b).state = .queued) :
    (presenceLoss b (Work.start s)).finish s =
      attempt (withdrawn b (s.setBay b (emptied (s.bay b).presenceLost))) := by
  have e : presenceLoss b (Work.start s) = (Work.start (s.setBay b (emptied (s.bay b).presenceLost))).withdraw b := by
    simp [presenceLoss, h, enterEmpty_eq, Bay.presenceLost, Bay.raise]
  rw [e, Work.finish_withdraw]

theorem finish_presenceLoss_powered {s : State} {b : BayIx} (h : (s.bay b).powered = true) :
    (presenceLoss b (Work.start s)).finish s = drained s b { (s.bay b).presenceLost with removed := true } := by
  have e : presenceLoss b (Work.start s) =
      removePower b .drain (Work.start (s.setBay b { (s.bay b).presenceLost with removed := true })) := by
    rw [Bay.powered_iff] at h
    rcases h with h | h <;> simp [presenceLoss, h, Bay.presenceLost, Bay.raise]
  rw [e, finish_removePower_drain]

/-- Settles O7: PRESENCE_ACTIVE changes one record of an unpowered bay or leaves its draw; PRESENCE_LOSS is taken by the
groups of states that handle it alike. -/
theorem presenceChangesComplete : Obligations.PresenceChangesComplete := by
  intro s b hb
  have active : exec (.presenceActive b.val) s = .next (takePresenceActive b s) := onBay_next hb _
  have loss : exec (.presenceLoss b.val) s = .next (takePresenceLoss b s) := onBay_next hb _
  rw [active, loss]
  refine ⟨fun hf => ?_, fun hf hs hp => ?_, fun hs hp => ?_⟩
  · simp [takePresenceActive, presenceActiveDue, hf]
  · have due : presenceActiveDue s b = true := by simp [presenceActiveDue, hf, hs, hp]
    rw [takePresenceActive, if_pos due, event_presenceActive]
  · have due : presenceLossDue s b = true := by simp [presenceLossDue, hs, hp]
    rw [takePresenceLoss, if_pos due, event]
    have still : (s.bay b).powered = false → (s.bay b).state ≠ .queued → _ := finish_presenceLoss_unpowered
    refine ⟨fun h => ?_, fun h => ?_, fun h => ?_, fun h => ?_, fun h => ?_, fun h => ?_, fun h => ?_⟩
    case refine_4 => rw [finish_presenceLoss_queued h]; rfl
    case refine_5 => rw [finish_presenceLoss_powered ((Bay.powered_iff _).mpr h)]; rfl
    all_goals
      rw [still (by simp [Bay.powered, h]) (by simp [h])]
      simp [Bay.lostUnpowered, h, Bay.presenceLost, Bay.drainRunning]

/-! ### Power-good, the switch fault and the deadlines (R17, R18, R20, R21, R26) -/

theorem State.setBay_setTemp (s : State) (b c : BayIx) (x : Bay) (t : Option TempRec) :
    (s.setTemp c t).setBay b x = (s.setBay b x).setTemp c t := rfl

theorem event_enterFault_powered {s : State} {b : BayIx} (h : (s.bay b).powered = true) (cause : FaultCause) :
    event (enterFault b cause) s = faultedPowered s b cause := by
  rw [event, enterFault_powered (w := Work.start s) h, removePower_start]
  simp only [Work.st_start, Work.start_setBay, State.bay_setTemp, State.bay_setBay_same, State.setBay_setTemp,
    State.setBay_setBay]
  exact Work.finish_start rfl rfl

/-- A record of a bay with a drive class enters RUN, its record changed first in fields that draw nothing. -/
theorem finish_enterRun {s : State} {b : BayIx} {x : Bay} {c : ClassIx} (h : x.cls = .cls c) :
    (enterRun b (Work.start (s.setBay b x))).finish s =
      settled s (s.setBay b (startRunning (s.driveClass c).resetHold x)) := by
  have e := enterRun_eq (b := b) (w := Work.start (s.setBay b x)) (by simpa using h)
  simp only [Work.st_start, Work.start_setBay, State.driveClass_setBay, State.bay_setBay_same,
    State.setBay_setBay] at e
  rw [e, finish_setBay]

theorem event_powerGoodSeen {s : State} {b : BayIx} {p : Spin} {c : ClassIx} (hp : (s.bay b).spin = some p)
    (hc : (s.bay b).cls = .cls c) :
    event (powerGoodSeen b) s =
      if p.surgeTaken then
        settled s (s.setBay b (startRunning (s.driveClass c).resetHold { s.bay b with lookPg := false }))
      else s.setBay b { s.bay b with lookPg := false, spin := some { p with pgSeen := true } } := by
  simp only [event, powerGoodSeen, Work.st_start, hp, Work.start_setBay]
  split
  · exact finish_enterRun hc
  · rw [finish_setBay]
    exact settled_setBay_alike rfl rfl

/-- Settles O8. -/
theorem powerGoodSeenCompletes : Obligations.PowerGoodSeenCompletes := by
  intro s b p c hb hst hp hc hl hs
  have line : exec (.powerGoodSeen b.val) s = .next (takePowerGoodSeen b s) := onBay_next hb _
  have due : powerGoodSeenDue s b = true := by simp [powerGoodSeenDue, hl, hs, hst]
  rw [line, takePowerGoodSeen, if_pos due, event_powerGoodSeen hp hc]

/-- Settles O9: both events are entries of a powered bay to FAULT. -/
theorem powerFailureFaults : Obligations.PowerFailureFaults := by
  intro s b hb
  have fault : exec (.switchFault b.val) s = .next (takeSwitchFault b s) := onBay_next hb _
  have lost : exec (.powerGoodLost b.val) s = .next (takePowerGoodLost b s) := onBay_next hb _
  refine ⟨fun hst hl hs => ?_, fun hst hl hs => ?_⟩
  · have powered := (Bay.powered_iff _).mpr hst
    have due : switchFaultDue s b = true := by simp [switchFaultDue, hl, hs, powered]
    rw [fault, takeSwitchFault, if_pos due]
    exact congrArg _ (event_enterFault_powered powered _)
  · have due : powerGoodLostDue s b = true := by
      rcases hst with hst | ⟨hst, p, hp, hg⟩
      · simp [powerGoodLostDue, hl, hs, hst]
      · simp [powerGoodLostDue, hl, hs, hst, hp, hg]
    rw [lost, takePowerGoodLost, if_pos due]
    exact congrArg _ (event_enterFault_powered (powerGoodLostDue_powered due) _)

theorem event_surgeDeadline {s : State} {b : BayIx} {p : Spin} {c : ClassIx} (hp : (s.bay b).spin = some p)
    (hc : (s.bay b).cls = .cls c) :
    event (surgeDeadline b) s =
      if p.pgSeen then settled s (s.setBay b (startRunning (s.driveClass c).resetHold (s.bay b)))
      else s.setBay b { s.bay b with spin := some { p with surgeTaken := true } } := by
  simp only [event, surgeDeadline, Work.st_start, hp, Work.start_setBay]
  split
  · have e := finish_enterRun (s := s) (b := b) hc
    rwa [State.setBay_self] at e
  · rw [finish_setBay]
    exact settled_setBay_alike rfl rfl

theorem event_powerGoodDeadline {s : State} {b : BayIx} {p : Spin} (hst : (s.bay b).state = .surge)
    (hp : (s.bay b).spin = some p) :
    event (powerGoodDeadline b) s =
      if p.pgSeen then s.setBay b { s.bay b with spin := some { p with pgTaken := true } }
      else faultedPowered s b .noPowerGood := by
  have h := event_enterFault_powered ((Bay.powered_iff _).mpr (.inl hst)) FaultCause.noPowerGood
  simp only [event, powerGoodDeadline, Work.st_start, hp, Work.start_setBay] at h ⊢
  split
  · rw [finish_setBay]
    exact settled_setBay_alike rfl rfl
  · exact h

theorem event_resetHoldExpiry (s : State) (b : BayIx) :
    event (resetHoldExpiry b) s =
      s.setBay b { s.bay b with resetHold := none, attn := { (s.bay b).attn with resetDone := true } } := by
  simp only [event, resetHoldExpiry, Bay.raise, AttnSet.union_onlyResetDone, Work.st_start, Work.start_setBay,
    finish_setBay]
  exact settled_setBay_alike rfl rfl

/-- Settles O12. -/
theorem deadlinesComplete : Obligations.DeadlinesComplete := by
  intro s b hb
  have surge : exec (.surgeDeadline b.val) s = .next (takeSurgeDeadline b s) := onBay_next hb _
  have good : exec (.powerGoodDeadline b.val) s = .next (takePgDeadline b s) := onBay_next hb _
  have hold : exec (.resetHoldExpiry b.val) s = .next (takeResetHold b s) := onBay_next hb _
  refine ⟨fun p c hst hp hc => ⟨fun hd ht => ?_, fun hd ht => ?_⟩, fun hst hr => ?_⟩
  · have due : surgeDeadlineDue s b = true := by simp [surgeDeadlineDue, hst, hp, hd, ht]
    rw [surge, takeSurgeDeadline, if_pos due, event_surgeDeadline hp hc]
  · have due : pgDeadlineDue s b = true := by simp [pgDeadlineDue, hst, hp, hd, ht]
    rw [good, takePgDeadline, if_pos due, event_powerGoodDeadline hst hp]
  · have due : resetHoldDue s b = true := by simp [resetHoldDue, hst, hr]
    rw [hold, takeResetHold, if_pos due, event_resetHoldExpiry]

end Sys2Proof.Machine
end

section
/-! PROOFS. The desire evaluated and the class resolved, in the terms of the statements, and the requests of one bay that
come to it. -/

namespace Sys2Proof.Machine

open Sys2Proof.Safety

/-! ### The evaluation of a desire, by the state of the bay (R12 to R15, R19) -/

theorem evaluated_of_expedite {x : Bay} (h : (evaluated x).expedite = false) : evaluated x = x := by
  simp only [evaluated, Bool.or_eq_false_iff] at h ⊢
  rw [h.2, Bool.or_false]

theorem evaluated_of_not_wants {p : Policy} {x : Bay} (h : wants p x = false) : evaluated x = x := by
  have : (decide (x.mgmtIntent = .none) && decide (x.loopIntent = .onExpedite)) = false := by
    unfold wants at h
    cases hm : x.mgmtIntent <;> cases hl : x.loopIntent <;> simp_all
  simp only [evaluated, this, Bool.or_false]

@[simp] theorem wants_evaluated (p : Policy) (x : Bay) : wants p (evaluated x) = wants p x := rfl

@[simp] theorem Work.map_map (w : Work) (f g : State → State) : (w.map f).map g = w.map fun s => g (f s) := rfl

@[simp] theorem Work.setBay_setBay (w : Work) (b : BayIx) (x y : Bay) : (w.setBay b x).setBay b y = w.setBay b y := by
  simp [Work.setBay]

@[simp] theorem Work.setBay_self (w : Work) (b : BayIx) : w.setBay b (w.st.bay b) = w := by
  simp [Work.setBay, Work.map]

/-- The flag that an evaluation sets first is that of `evaluated`. -/
theorem Work.evaluated_eq (b : BayIx) (w : Work) :
    (if decidedByExpedite w.st b then setExpedite b w else w) = w.setBay b (evaluated (w.st.bay b)) := by
  by_cases h : decidedByExpedite w.st b = true
  · have h' := h
    simp only [decidedByExpedite, Bool.and_eq_true, decide_eq_true_eq] at h'
    simp [h, setExpedite, evaluated, h']
  · have e : evaluated (w.st.bay b) = w.st.bay b := by
      simp only [decidedByExpedite, Bool.not_eq_true] at h
      simp only [evaluated, h, Bool.or_false]
    rw [if_neg h, e, Work.setBay_self]

theorem enterQueued_setBay (w : Work) (b : BayIx) (x : Bay) :
    enterQueued b (w.setBay b x) =
      if x.expedite then (w.setBay b { x with state := .queued, expedite := false }).enterHead b
      else (w.setBay b { x with state := .queued }).enterTail b := by
  simp [enterQueued]

theorem finish_enterQueued (s t : State) (b : BayIx) (x : Bay) :
    (enterQueued b (Work.start (t.setBay b x))).finish s = enqueued t b x := by
  rw [← Work.start_setBay, enterQueued_setBay]
  simp only [Work.start_setBay, apply_ite (Work.finish s), Work.finish_enterHead, Work.finish_enterTail, enqueued]

theorem overBudget_iff (s : State) (c : ClassIx) :
    overBudget s c = true ↔ (s.acct.ceiling : Int) - s.acct.guardBand < (s.driveClass c).surge := by
  exact ⟨of_decide_eq_true, decide_eq_true⟩

section Evaluate

variable {w : Work} {s : State} {b : BayIx} {x : Bay}

theorem evaluate_unpowered_still (hs : w.st = s) (hx : s.bay b = x)
    (h : x.state = .empty ∨ x.state = .settling ∨ x.state = .drain ∨ x.state = .fault) :
    evaluate b w = w.setBay b (evaluated x) := by
  subst hs
  have hst : (evaluated x).state = x.state := rfl
  unfold evaluate
  rw [Work.evaluated_eq, hx]
  rcases h with h | h | h | h <;> simp [hst, h]

theorem evaluate_powered (hs : w.st = s) (hx : s.bay b = x) (h : x.state = .surge ∨ x.state = .run) :
    evaluate b w =
      if wants (s.bayCfg b).policy x then w.setBay b (evaluated x) else removePower b .drain w := by
  subst hs
  have hst : (evaluated x).state = x.state := rfl
  unfold evaluate
  rw [Work.evaluated_eq, hx]
  cases hw : wants (w.st.bayCfg b).policy x
  · have e : w.setBay b (evaluated x) = w := by rw [evaluated_of_not_wants hw, ← hx, Work.setBay_self]
    rcases h with h | h <;> simp [e, hx, h, desire_eq, hw]
  · rcases h with h | h <;> simp [hst, h, desire_eq, hw]

theorem evaluate_queued (hs : w.st = s) (hx : s.bay b = x) (h : x.state = .queued) :
    evaluate b w =
      if wants (s.bayCfg b).policy x then
        if (evaluated x).expedite then (w.setBay b { evaluated x with expedite := false }).enterHead b else w
      else (w.setBay b { x with state := .idle }).withdraw b := by
  subst hs
  have hst : (evaluated x).state = x.state := rfl
  unfold evaluate
  rw [Work.evaluated_eq, hx]
  cases hw : wants (w.st.bayCfg b).policy x
  · simp [h, desire_eq, hw, evaluated_of_not_wants hw]
  · cases he : (evaluated x).expedite
    · have e : w.setBay b (evaluated x) = w := by rw [evaluated_of_expedite he, ← hx, Work.setBay_self]
      have ex : x.expedite = false := by rw [← evaluated_of_expedite he, he]
      simp [e, hx, h, desire_eq, hw, ex]
    · simp [hst, h, desire_eq, hw, he, moveToHead]

theorem evaluate_idle_cls {c : ClassIx} (hs : w.st = s) (hx : s.bay b = x) (h : x.state = .idle) (hc : x.cls = .cls c) :
    evaluate b w =
      if wants (s.bayCfg b).policy x then
        if overBudget s c then w.setBay b (faulted .budget (evaluated x))
        else enterQueued b (w.setBay b (evaluated x))
      else w.setBay b (evaluated x) := by
  subst hs
  have hst : (evaluated x).state = x.state := rfl
  have hcls : (evaluated x).cls = x.cls := rfl
  unfold evaluate
  rw [Work.evaluated_eq, hx]
  have hb : overBudget (w.st.setBay b (evaluated x)) c = overBudget w.st c := rfl
  have hf : enterFault b .budget (w.setBay b (evaluated x)) = w.setBay b (faulted .budget (evaluated x)) := by
    rw [enterFault_unpowered (by simp [Bay.powered, hst, h])]
    simp
  simp [hst, h, actInIdle, hcls, hc, desire_eq, hb, hf]

theorem evaluate_idle_noClass (hs : w.st = s) (hx : s.bay b = x) (h : x.state = .idle) (hc : ∀ c, x.cls ≠ .cls c) :
    evaluate b w = w.setBay b (evaluated x) := by
  subst hs
  have hst : (evaluated x).state = x.state := rfl
  have hcls : (evaluated x).cls = x.cls := rfl
  unfold evaluate
  rw [Work.evaluated_eq, hx]
  cases hk : x.cls with
  | cls c => exact absurd hk (hc c)
  | blank | unresolved => simp [hst, h, actInIdle, hcls, hk]

end Evaluate

/-! ### `obeyed` is the event of an evaluation -/

theorem settled_of_committed {s t : State} (h : t.committed = s.committed) (u : State) : settled s u = settled t u := by
  simp only [settled, h]

/-- The evaluation of a desire, as an event that started at a state with the same committed draw, account and zones. -/
theorem finish_evaluate {s t : State} {b : BayIx} (hd : t.committed = s.committed) (ha : t.acct = s.acct)
    (hz : t.cool.zones = s.cool.zones) : (evaluate b (Work.start t)).finish s = obeyed t b (t.bay b) := by
  have same : ∀ x : Bay, x.state = (t.bay b).state → x.cls = (t.bay b).cls →
      (Work.start (t.setBay b x)).finish s = t.setBay b x := fun x hs hc => by
    rw [Work.finish_start (by simpa using ha) (by simpa using hz), settled_of_committed hd, settled_setBay_alike hs hc]
  have unpowered : (t.bay b).powered = false → ∀ x : Bay, (Work.start (t.setBay b x)).finish s = t.setBay b x :=
    fun hp x => by
      rw [Work.finish_start (by simpa using ha) (by simpa using hz), settled_of_committed hd, settled_setBay_unpowered hp]
  have keep := same (evaluated (t.bay b)) rfl rfl
  have drain : (removePower b .drain (Work.start t)).finish s = drained t b (t.bay b) := by
    rw [removePower_start, drained, ← settled_of_committed hd]
    exact Work.finish_start ha hz
  unfold obeyed
  cases hst : (t.bay b).state with
  | empty | settling | drain | fault =>
    rw [evaluate_unpowered_still (s := t) (x := t.bay b) rfl rfl (by simp [hst])]
    exact keep
  | surge | run =>
    rw [evaluate_powered (s := t) (x := t.bay b) rfl rfl (by simp [hst])]
    simp only [Work.start_setBay, apply_ite (Work.finish s), keep, drain]
  | queued =>
    have stay := same (t.bay b) rfl rfl
    rw [State.setBay_self] at stay
    rw [evaluate_queued (s := t) (x := t.bay b) rfl rfl hst]
    simp only [Work.start_setBay, apply_ite (Work.finish s), Work.finish_enterHead, Work.finish_withdraw,
      stay, State.setBay_self]
  | idle =>
    have hp : (t.bay b).powered = false := by simp [Bay.powered, hst]
    cases hc : (t.bay b).cls with
    | blank | unresolved =>
      rw [evaluate_idle_noClass (s := t) (x := t.bay b) rfl rfl hst (by simp [hc])]
      exact keep
    | cls c =>
      rw [evaluate_idle_cls (s := t) (x := t.bay b) rfl rfl hst hc]
      simp only [Work.start_setBay, overBudget_iff, apply_ite (Work.finish s), finish_enterQueued, unpowered hp]

theorem obeyed_setBay {s : State} {b : BayIx} {x : Bay} (h : (s.setBay b x).committed = s.committed) (y : Bay) :
    obeyed (s.setBay b x) b y = obeyed s b y := by
  have e : drained (s.setBay b x) b y = drained s b y := by
    simp only [drained, State.setBay_setBay, State.sup_drainSetting_setBay]
    exact settled_of_committed h.symm _
  simp only [obeyed, e, State.bayCfg_setBay, State.acct_setBay, State.driveClass_setBay, State.setBay_setBay, enqueued]

/-- The same after a change of the record that leaves what the bay draws. -/
theorem finish_evaluate_setBay {s t : State} {b : BayIx} {x : Bay} (hd : t.committed = s.committed)
    (ha : t.acct = s.acct) (hz : t.cool.zones = s.cool.zones) (h : (t.setBay b x).draw b = t.draw b) :
    (evaluate b (Work.start (t.setBay b x))).finish s = obeyed t b x := by
  have hd' := State.committed_setBay h
  rw [finish_evaluate (hd'.trans hd) (by simpa using ha) (by simpa using hz), State.bay_setBay_same, obeyed_setBay hd']

theorem State.draw_setBay_unpowered {s : State} {b : BayIx} {x : Bay} (h : (s.bay b).powered = false)
    (hx : x.powered = false) : (s.setBay b x).draw b = s.draw b := by
  rw [State.draw_unpowered h, State.draw_unpowered (by simpa using hx)]

/-! ### A class resolved, from outside IDLE and again (R8, R11, R25, R31) -/

theorem finish_enterFault_unpowered {s : State} {b : BayIx} {x : Bay} (h : (s.bay b).powered = false)
    (hx : x.powered = false) (c : FaultCause) :
    (enterFault b c (Work.start (s.setBay b x))).finish s = s.setBay b (faulted c x) := by
  rw [enterFault_unpowered (by simpa using hx)]
  simp only [Work.st_start, Work.start_setBay, State.bay_setBay_same, State.setBay_setBay, finish_setBay]
  exact settled_setBay_unpowered h _

@[simp] theorem classAnswer_setBay (s : State) (b c : BayIx) (x : Bay) (k : BitVec 4) :
    classAnswer (s.setBay c x) b k = classAnswer s b k := rfl

theorem finish_enterIdle {s : State} {b : BayIx} {x : Bay} (h : (s.bay b).powered = false) (hx : x.powered = false) :
    (enterIdle b (Work.start (s.setBay b x))).finish s = intoIdle s b x := by
  have hr : readCarrier b (Work.start (s.setBay b x)) =
      Work.start (s.setBay b { x with carrier := (s.seen b).carrier }) := by
    simp [readCarrier]
  unfold enterIdle intoIdle
  simp only [hr, resolution_eq, Work.st_start, Work.start_setBay, State.bay_setBay_same, State.setBay_setBay,
    classAnswer_setBay]
  cases classAnswer s b (s.seen b).carrier with
  | unsupported => exact finish_enterFault_unpowered h (by exact hx) _
  | blank | cls c => exact finish_evaluate_setBay rfl rfl rfl (State.draw_setBay_unpowered h rfl)

theorem finish_leaveUnpowered {s : State} {b : BayIx} {x : Bay} (h : (s.bay b).powered = false)
    (hx : x.powered = false) :
    (leaveUnpowered b (Work.start (s.setBay b x))).finish s =
      if x.presence then intoIdle s b x else s.setBay b (emptied x) := by
  unfold leaveUnpowered
  simp only [Work.st_start, State.bay_setBay_same]
  split
  · exact finish_enterIdle h hx
  · rw [enterEmpty_eq]
    simp only [Work.st_start, Work.start_setBay, State.bay_setBay_same, State.setBay_setBay, finish_setBay]
    exact settled_setBay_unpowered h _

theorem Work.withdraw_setBay (w : Work) (b c : BayIx) (x : Bay) :
    (w.withdraw b).setBay c x = (w.setBay c x).withdraw b := rfl

theorem finish_enterFault_withdraw (s t : State) {b : BayIx} {x : Bay} (hx : x.powered = false) (c : FaultCause) :
    (enterFault b c ((Work.start (t.setBay b x)).withdraw b)).finish s =
      attempt (withdrawn b (t.setBay b (faulted c x))) := by
  rw [enterFault_unpowered (by simpa using hx), Work.withdraw_setBay]
  simp only [Work.withdraw_bay, Work.start_setBay, Work.st_start, State.bay_setBay_same, State.setBay_setBay,
    Work.finish_withdraw]

/-- The re-resolution of a class, as an event that started at a state with the same committed draw, account and zones. -/
theorem finish_reresolve {s t : State} {b : BayIx} (hd : t.committed = s.committed) (ha : t.acct = s.acct)
    (hz : t.cool.zones = s.cool.zones) : (reresolve b (Work.start t)).finish s = resolvedAgain t b := by
  have stay : (Work.start t).finish s = t := by
    rw [Work.finish_start ha hz, settled_of_committed hd, settled_eq_of_le (Nat.le_refl _)]
  have unpowered : (t.bay b).powered = false → ∀ x : Bay, (Work.start (t.setBay b x)).finish s = t.setBay b x :=
    fun hp x => by
      rw [Work.finish_start (by simpa using ha) (by simpa using hz), settled_of_committed hd, settled_setBay_unpowered hp]
  have fault : ∀ x : Bay, x.powered = false → ∀ c,
      enterFault b c (Work.start (t.setBay b x)) = Work.start (t.setBay b (faulted c x)) := fun x hx c => by
    rw [enterFault_unpowered (by simpa using hx)]
    simp
  unfold reresolve resolvedAgain
  simp only [Work.st_start, resolution_eq]
  cases hst : (t.bay b).state with
  | empty | settling | surge | run | drain | fault => exact stay
  | idle =>
    have hp : (t.bay b).powered = false := by simp [Bay.powered, hst]
    cases classAnswer t b (t.bay b).carrier with
    | unsupported =>
      rw [Work.start_setBay, fault _ (by simp [Bay.powered])]
      exact unpowered hp _
    | blank => exact unpowered hp _
    | cls c =>
      exact finish_evaluate_setBay hd ha hz (State.draw_setBay_unpowered hp rfl)
  | queued =>
    have hp : ∀ k, Bay.powered { t.bay b with state := .queued, cls := k } = false := fun _ => rfl
    cases classAnswer t b (t.bay b).carrier with
    | unsupported => exact finish_enterFault_withdraw s t (hp _) _
    | blank =>
      dsimp only
      rw [evaluate_idle_noClass (x := { t.bay b with cls := .blank, state := .idle }) rfl
        (by simp) rfl (by simp), Work.withdraw_setBay]
      simp only [Work.start_setBay, State.setBay_setBay, Work.finish_withdraw]
    | cls c =>
      simp only [overBudget_iff, apply_ite (Work.finish s), Work.start_setBay, Work.finish_owe,
        finish_enterFault_withdraw s t (hp _)]

/-! ### The messages of one bay (R12, R13, R19, R21, R28, R30, R31) -/

/-- A request that the part takes, with what its execution comes to. -/
theorem message_answered {s : State} {dst : Byte} (h : Takes s dst) {run : State → Answer} {u : State} {r : Result}
    {data : List Byte} (ha : run s = ⟨u, r, data, false⟩) (tag kind : Byte) (acts : Bool) :
    live s (deliver dst tag kind acts run) = .next (answered u kind tag r data) := by
  rw [live_next h.1, deliver_takes h, ha]
  simp

/-- One byte carries a number below 256. -/
theorem toNat_b8 {n : Nat} (h : n < 256) : (b8 n).toNat = n := by
  simp only [b8, BitVec.toNat_ofNat]
  omega

theorem namedBay_populated {s : State} {b : BayIx} (h : s.populated b = true) : namedBay s (b8 b.val) = some b := by
  have e : (b8 b.val).toNat = b.val := toNat_b8 (by omega)
  simp [namedBay, e, h]

theorem onNamedBay_populated {s : State} {b : BayIx} (h : s.populated b = true) (k : BayIx → Answer) :
    onNamedBay (b8 b.val) s k = k b := by
  simp only [onNamedBay, namedBay_populated h]

theorem msgIntent_named {s : State} {b : BayIx} (h : s.populated b = true) (i : MgmtIntent) :
    msgIntent i (b8 b.val) s =
      if (s.bay b).state = .empty then refuse .notPresent s
      else accept (obeyed s b { s.bay b with mgmtIntent := i }) := by
  have e : event (setIntent i b) s = obeyed s b { s.bay b with mgmtIntent := i } :=
    finish_evaluate_setBay rfl rfl rfl (State.draw_setBay_alike rfl rfl)
  rw [msgIntent, onNamedBay_populated h, e]

theorem msgExpedite_named {s : State} {b : BayIx} (h : s.populated b = true) :
    msgExpedite (b8 b.val) s =
      if (s.bay b).state = .empty then refuse .notPresent s
      else accept (obeyed s b { s.bay b with mgmtIntent := .on, expedite := true }) := by
  have w : expediteBay b (Work.start s) =
      evaluate b (Work.start (s.setBay b { s.bay b with mgmtIntent := .on, expedite := true })) := by
    simp [expediteBay, setIntent, setExpedite]
  have e : event (expediteBay b) s = obeyed s b { s.bay b with mgmtIntent := .on, expedite := true } := by
    rw [event, w]
    exact finish_evaluate_setBay rfl rfl rfl (State.draw_setBay_alike rfl rfl)
  rw [msgExpedite, onNamedBay_populated h, e]

/-- An answer with or without effect, as the part hands it over. -/
theorem message_accepts_or_refuses {s : State} {dst : Byte} (h : Takes s dst) {run : State → Answer} {p : Prop}
    [Decidable p] {u : State} {r : Result} (ha : run s = if p then accept u else refuse r s) (tag kind : Byte)
    (acts : Bool) :
    live s (deliver dst tag kind acts run) =
      .next (if p then answered u kind tag .ok [] else answered s kind tag r []) := by
  by_cases hp : p
  · rw [if_pos hp] at ha ⊢
    exact message_answered h ha ..
  · rw [if_neg hp] at ha ⊢
    exact message_answered h ha ..

/-- Settles O38: each action is a change of the intent that draws nothing, with the desire evaluated. -/
theorem bayPowerIntentsComplete : Obligations.BayPowerIntentsComplete := by
  intro s dst tag b ht hb
  have gives : ∀ (run : State → Answer) (x : Bay),
      run s = (if (s.bay b).state = .empty then refuse .notPresent s else accept (obeyed s b x)) →
      live s (deliver dst tag 3#8 false run) = .next
        (if (s.bay b).state = .empty then answered s 3#8 tag .notPresent [] else answered (obeyed s b x) 3#8 tag .ok []) := by
    intro run x ha
    rw [← ite_not] at ha
    rw [message_accepts_or_refuses ht ha, ite_not]
  exact ⟨gives _ _ (msgIntent_named hb .on), gives _ _ (msgIntent_named hb .off), gives _ _ (msgIntent_named hb .none),
    gives _ _ (msgExpedite_named hb)⟩

theorem event_cycleBay (s : State) (b : BayIx) :
    event (cycleBay b) s = drained s b { s.bay b with expedite := true } := by
  simp only [event, cycleBay, setExpedite, removePower_start, Work.st_start, Work.start_setBay, State.bay_setTemp,
    State.bay_setBay_same, State.setBay_setTemp, State.setBay_setBay]
  exact Work.finish_start rfl rfl

/-- CLEAR of a faulted bay: its drain goes on in DRAIN, or it leaves as a drain with a clear flag would. -/
theorem event_clearFault {s : State} {b : BayIx} (h : (s.bay b).state = .fault) :
    event (clearFault b) s =
      let x := { s.bay b with cause := .none, retries := 0 }
      if x.drain ≠ 0 ∨ x.drainDue = true then s.setBay b { x with state := .drain, removed := false }
      else if x.presence then intoIdle s b x else s.setBay b (emptied x) := by
  have hp : (s.bay b).powered = false := by simp [Bay.powered, h]
  simp only [event, clearFault, Work.st_start, Work.start_setBay, Bay.drainRunning_iff]
  split
  · rw [finish_setBay]
    exact settled_setBay_unpowered hp _
  · exact finish_leaveUnpowered hp (by exact hp)

/-- Settles O39. -/
theorem bayPowerCycleAndClearComplete : Obligations.BayPowerCycleAndClearComplete := by
  intro s dst tag b ht hb
  refine ⟨?_, ?_⟩
  · refine message_accepts_or_refuses ht ?_ tag 3#8 false
    rw [msgCycle, onNamedBay_populated hb, event_cycleBay]
    simp only [Bay.powered_iff]
  · have ha : msgClear (b8 b.val) s = if (s.bay b).state = .fault then accept (event (clearFault b) s)
        else refuse .notFaulted s := by
      rw [msgClear, onNamedBay_populated hb]
    refine (message_accepts_or_refuses ht ha tag 3#8 false).trans ?_
    by_cases h : (s.bay b).state = .fault
    · rw [if_pos h, if_pos h, event_clearFault h]
      dsimp only
      simp only [apply_ite (answered · 3#8 tag .ok [])]
    · rw [if_neg h, if_neg h]

theorem decodeOverride_refuses {n : Nat} (h : 8 ≤ n) (hn : n ≠ 255) : decodeOverride n = none := by
  unfold decodeOverride
  rw [if_neg hn, dif_neg (by omega)]

theorem decodeOverride_some (k : ClassIx) : decodeOverride (b8 k.val).toNat = some (some k) := by
  revert k
  decide

theorem decodeOverride_none : decodeOverride (255#8 : Byte).toNat = some none := by decide

theorem event_classBay (s : State) (b : BayIx) (o : Option ClassIx) :
    event (classBay b o) s = resolvedAgain (s.setBayCfg b { s.bayCfg b with override := o }) b :=
  finish_reresolve (State.committed_congr fun _ => State.draw_congr rfl rfl rfl) rfl rfl

theorem resetBay_eq {s : State} {b : BayIx} {c : ClassIx} (h : (s.bay b).cls = .cls c) :
    resetBay b s = s.setBay b
      { s.bay b with
        resetHold := some (if (s.driveClass c).resetHold = 0 then 10 else (s.driveClass c).resetHold * 10) } := by
  simp only [resetBay, State.classOf, h]

theorem msgBayClass_stores {s : State} {b : BayIx} (hb : s.populated b = true) {cls : Byte} {o : Option ClassIx}
    (ho : decodeOverride cls.toNat = some o) :
    msgBayClass (b8 b.val) cls s =
      if ¬((s.bay b).state = .surge ∨ (s.bay b).state = .run ∨ (s.bay b).state = .drain) then
        accept (resolvedAgain (s.setBayCfg b { s.bayCfg b with override := o }) b)
      else refuse .busy s := by
  rw [msgBayClass, onNamedBay_populated hb, ho]
  dsimp only
  rw [event_classBay]
  cases (s.bay b).state <;> simp

/-- Settles O40. -/
theorem bayResetAndClassComplete : Obligations.BayResetAndClassComplete := by
  intro s dst tag cls b c ht hb
  refine ⟨fun hst hc => ?_, fun hst => ?_, fun h8 h255 => ?_, fun o ho => ?_⟩
  · refine message_answered ht ?_ tag 4#8 false
    rw [msgBayReset, onNamedBay_populated hb, if_pos hst, resetBay_eq hc]
    rfl
  · refine message_answered ht ?_ tag 4#8 false
    rw [msgBayReset, onNamedBay_populated hb, if_neg hst]
    rfl
  · have hn : cls.toNat ≠ 255 := fun e => h255 (BitVec.eq_of_toNat_eq e)
    refine message_answered ht ?_ tag 5#8 false
    rw [msgBayClass, onNamedBay_populated hb, decodeOverride_refuses h8 hn]
    rfl
  · have ho : decodeOverride cls.toNat = some o := by
      cases o with
      | none => rw [ho, decodeOverride_none]
      | some k => rw [ho, decodeOverride_some]
    rw [← ite_not]
    exact message_accepts_or_refuses ht (msgBayClass_stores hb ho) tag 5#8 false

end Sys2Proof.Machine
end

section
/-! PROOFS. What an operation on one bay leaves alone, sweeps of such operations over the bays, and the expiries of a
tick (R11, R25, R27, R49). -/

namespace Sys2Proof.Machine

open Sys2Proof.Safety

/-! ### The frame of an operation on one bay -/

/-- w' is w but for the records and temperatures of the bays, the queue and what an event's end looks at, and bays can only
leave the queue. -/
structure BaysOnly (w w' : Work) : Prop where
  rest : w'.st =
    { w.st with
      sup := { w.st.sup with bays := w'.st.sup.bays }
      sched := { w.st.sched with queue := w'.st.sched.queue }
      scan := { w.st.scan with temps := w'.st.scan.temps } }
  order : w'.st.sched.queue = w.st.sched.queue.filter (fun c => decide (c ∈ w'.st.sched.queue))

/-- Bay c has the same record and temperature in both, and stands in the queue and among those that ask for an entry
alike. -/
structure Agree (c : BayIx) (w w' : Work) : Prop where
  bay : w'.st.bay c = w.st.bay c
  temp : w'.st.temp c = w.st.temp c
  tails : c ∈ w'.tails ↔ c ∈ w.tails
  heads : c ∈ w'.heads ↔ c ∈ w.heads
  queue : c ∈ w'.st.sched.queue ↔ c ∈ w.st.sched.queue

/-- w' is w after an operation on bay b. -/
structure Edits (b : BayIx) (w w' : Work) : Prop where
  frame : BaysOnly w w'
  others : ∀ c, c ≠ b → Agree c w w'

/-- A list filtered by its own members, and then by those of a part of it. -/
theorem filter_mem_trans {q r t : List BayIx} (h : r = q.filter (fun c => decide (c ∈ r)))
    (k : t = r.filter (fun c => decide (c ∈ t))) : t = q.filter (fun c => decide (c ∈ t)) := by
  have sub : ∀ c, c ∈ t → c ∈ r := fun c hc => by
    rw [k] at hc
    exact List.mem_of_mem_filter hc
  calc t = r.filter (fun c => decide (c ∈ t)) := k
    _ = (q.filter (fun c => decide (c ∈ r))).filter (fun c => decide (c ∈ t)) := by rw [← h]
    _ = q.filter (fun c => decide (c ∈ t)) := by
      rw [List.filter_filter]
      refine List.filter_congr fun c _ => ?_
      by_cases hc : c ∈ t <;> simp [hc, sub]

theorem filter_mem_self (q : List BayIx) : q = q.filter (fun c => decide (c ∈ q)) :=
  (List.filter_eq_self.mpr fun c hc => by simpa using hc).symm

theorem BaysOnly.refl (w : Work) : BaysOnly w w := ⟨rfl, filter_mem_self _⟩

theorem BaysOnly.trans {w w' w'' : Work} (h : BaysOnly w w') (k : BaysOnly w' w'') : BaysOnly w w'' :=
  ⟨by rw [k.rest, h.rest], filter_mem_trans h.order k.order⟩

theorem Agree.refl (c : BayIx) (w : Work) : Agree c w w := ⟨rfl, rfl, .rfl, .rfl, .rfl⟩

theorem Agree.trans {c : BayIx} {w w' w'' : Work} (h : Agree c w w') (k : Agree c w' w'') : Agree c w w'' :=
  ⟨k.bay.trans h.bay, k.temp.trans h.temp, k.tails.trans h.tails, k.heads.trans h.heads, k.queue.trans h.queue⟩

namespace Edits

variable {b : BayIx}

theorem refl (b : BayIx) (w : Work) : Edits b w w := ⟨.refl w, fun c _ => .refl c w⟩

theorem trans {w w' w'' : Work} (h : Edits b w w') (k : Edits b w' w'') : Edits b w w'' :=
  ⟨h.frame.trans k.frame, fun c hc => (h.others c hc).trans (k.others c hc)⟩

theorem setBay (w : Work) (x : Bay) : Edits b w (w.setBay b x) :=
  ⟨⟨rfl, filter_mem_self _⟩, fun _ hc => ⟨State.bay_setBay_other w.st x hc, rfl, .rfl, .rfl, .rfl⟩⟩

theorem owe (w : Work) : Edits b w w.owe := ⟨⟨rfl, filter_mem_self _⟩, fun _ _ => ⟨rfl, rfl, .rfl, .rfl, .rfl⟩⟩

theorem enterTail (w : Work) : Edits b w (w.enterTail b) :=
  ⟨⟨rfl, filter_mem_self _⟩, fun c hc => ⟨rfl, rfl, by simp [Work.enterTail, hc], .rfl, .rfl⟩⟩

theorem enterHead (w : Work) : Edits b w (w.enterHead b) :=
  ⟨⟨rfl, filter_mem_self _⟩,
    fun c hc => ⟨rfl, rfl, by simp [Work.enterHead, hc], by simp [Work.enterHead, hc], .rfl⟩⟩

theorem withdraw (w : Work) : Edits b w (w.withdraw b) := by
  refine ⟨⟨rfl, List.filter_congr fun c hc => ?_⟩, fun c hc => ⟨rfl, rfl, ?_, ?_, ?_⟩⟩
  · simp [Work.withdraw, hc]
  all_goals simp [Work.withdraw, hc]

theorem removePower (w : Work) (next : BayState) : Edits b w (removePower b next w) := by
  rw [removePower_eq]
  exact ⟨⟨rfl, filter_mem_self _⟩,
    fun c hc => ⟨by simp [Work.map, hc], by simp [Work.map, hc], .rfl, .rfl, .rfl⟩⟩

theorem enterFault (w : Work) (c : FaultCause) : Edits b w (enterFault b c w) := by
  unfold Machine.enterFault
  split
  · exact (removePower w _).trans (setBay ..)
  · exact setBay ..

theorem enterQueued (w : Work) : Edits b w (enterQueued b w) := by
  unfold Machine.enterQueued
  dsimp only
  split
  · exact (setBay ..).trans (enterHead _)
  · exact (setBay ..).trans (enterTail _)

theorem evaluate (w : Work) : Edits b w (evaluate b w) := by
  cases hst : (w.st.bay b).state with
  | empty | settling | drain | fault =>
    rw [evaluate_unpowered_still (w := w) rfl rfl (by simp [hst])]
    exact setBay ..
  | surge | run =>
    rw [evaluate_powered (w := w) rfl rfl (by simp [hst])]
    split
    · exact setBay ..
    · exact removePower ..
  | queued =>
    rw [evaluate_queued (w := w) rfl rfl hst]
    split
    · split
      · exact (setBay ..).trans (enterHead _)
      · exact refl ..
    · exact (setBay ..).trans (withdraw _)
  | idle =>
    cases hc : (w.st.bay b).cls with
    | blank | unresolved =>
      rw [evaluate_idle_noClass (w := w) rfl rfl hst (by simp [hc])]
      exact setBay ..
    | cls c =>
      rw [evaluate_idle_cls (w := w) rfl rfl hst hc]
      split
      · split
        · exact setBay ..
        · exact (setBay ..).trans (enterQueued _)
      · exact setBay ..

theorem enterIdle (w : Work) : Edits b w (enterIdle b w) := by
  unfold Machine.enterIdle
  dsimp only
  refine (setBay w _ : Edits b w (readCarrier b w)).trans ?_
  split
  · exact (setBay ..).trans (enterFault ..)
  · exact (setBay ..).trans (evaluate _)
  · exact (setBay ..).trans (evaluate _)

theorem leaveUnpowered (w : Work) : Edits b w (leaveUnpowered b w) := by
  unfold Machine.leaveUnpowered
  split
  · exact enterIdle w
  · exact setBay ..

theorem reresolve (w : Work) : Edits b w (reresolve b w) := by
  unfold Machine.reresolve
  dsimp only
  split
  · split
    · exact (setBay ..).trans (enterFault ..)
    · exact setBay ..
    · exact (setBay ..).trans (evaluate _)
  · split
    · exact ((setBay ..).trans (withdraw _)).trans (enterFault ..)
    · exact ((setBay ..).trans (withdraw _)).trans (evaluate _)
    · split
      · exact ((setBay ..).trans (withdraw _)).trans (enterFault ..)
      · exact (setBay ..).trans (owe _)
  all_goals exact refl ..

theorem evaluateRestored (w : Work) : Edits b w (evaluateRestored b w) := by
  unfold Machine.evaluateRestored
  split
  · exact refl ..
  · exact evaluate w

theorem drainExpiry (w : Work) : Edits b w (drainExpiry b w) := by
  unfold Machine.drainExpiry
  dsimp only
  refine (setBay w { w.st.bay b with drainDue := false }).trans ?_
  generalize w.setBay b { w.st.bay b with drainDue := false } = w
  split
  · split
    · split
      · exact setBay ..
      · exact enterIdle _
    · exact setBay ..
  · split
    · exact (setBay ..).trans (leaveUnpowered _)
    · exact refl ..
  all_goals exact refl ..

theorem expiry (w : Work) : Edits b w (expiry b w) := by
  unfold Machine.expiry
  split
  · exact (setBay ..).trans (enterIdle _)
  · split
    · exact drainExpiry w
    · exact refl ..

end Edits

/-! ### A sweep over the bays -/

theorem allBays_nodup : allBays.Nodup := List.nodup_finRange 24

theorem mem_allBays (b : BayIx) : b ∈ allBays := List.mem_finRange b

/-- One operation after another, each on its own bay. -/
abbrev sweep (k : BayIx → Work → Work) (l : List BayIx) (w : Work) : Work := l.foldl (fun w b => k b w) w

section Sweep

variable {k : BayIx → Work → Work}

theorem sweep_fixed {l : List BayIx} {w : Work} (h : ∀ c ∈ l, k c w = w) : sweep k l w = w := by
  induction l with
  | nil => rfl
  | cons c l ih =>
    rw [sweep, List.foldl_cons, h c (by simp)]
    exact ih fun d hd => h d (by simp [hd])

/-- A sweep in which only one bay's operation does anything. -/
theorem sweep_one {l : List BayIx} {w : Work} {b : BayIx} (hn : l.Nodup) (hb : b ∈ l)
    (h : ∀ c, c ≠ b → k c w = w ∧ k c (k b w) = k b w) : sweep k l w = k b w := by
  induction l with
  | nil => cases hb
  | cons c l ih =>
    obtain ⟨hc, hn⟩ := List.nodup_cons.mp hn
    rw [sweep, List.foldl_cons]
    rcases List.mem_cons.mp hb with rfl | hb
    · exact sweep_fixed fun d hd => (h d fun e => hc (e ▸ hd)).2
    · rw [(h c fun e => hc (e ▸ hb)).1]
      exact ih hn hb

theorem sweep_baysOnly (hk : ∀ b w, Edits b w (k b w)) (l : List BayIx) (w : Work) : BaysOnly w (sweep k l w) := by
  induction l generalizing w with
  | nil => exact .refl w
  | cons c l ih => exact (hk c w).frame.trans (ih _)

theorem sweep_absent (hk : ∀ b w, Edits b w (k b w)) {l : List BayIx} {c : BayIx} (hc : c ∉ l) (w : Work) :
    Agree c w (sweep k l w) := by
  induction l generalizing w with
  | nil => exact .refl c w
  | cons d l ih =>
    rw [List.mem_cons, not_or] at hc
    exact ((hk d w).others c hc.1).trans (ih hc.2 _)

/-- What a sweep makes of a bay is what its operation makes of it where the bay still stands as at the start. -/
theorem sweep_at (hk : ∀ b w, Edits b w (k b w)) {l : List BayIx} {c : BayIx} (hn : l.Nodup) (hc : c ∈ l) (w : Work) :
    ∃ w', BaysOnly w w' ∧ Agree c w w' ∧ Agree c (k c w') (sweep k l w) := by
  induction l generalizing w with
  | nil => cases hc
  | cons d l ih =>
    obtain ⟨hd, hn⟩ := List.nodup_cons.mp hn
    rcases List.mem_cons.mp hc with rfl | hc
    · exact ⟨w, .refl w, .refl c w, sweep_absent hk hd _⟩
    · have hcd : c ≠ d := fun e => hd (e ▸ hc)
      obtain ⟨w', hf, ha, he⟩ := ih hn hc (k d w)
      exact ⟨w', (hk d w).frame.trans hf, ((hk d w).others c hcd).trans ha, he⟩

end Sweep

/-! ### The expiries of a tick (R11, R25, R27, R49) -/

/-- The expiry of one bay, if the bay is populated. -/
def expiryHere (b : BayIx) (w : Work) : Work := if w.st.populated b then expiry b w else w

theorem expiryHere_edits (b : BayIx) (w : Work) : Edits b w (expiryHere b w) := by
  unfold expiryHere
  split
  · exact .expiry w
  · exact .refl b w

theorem expiryHere_none {b : BayIx} {w : Work} (h : w.st.populated b = true → debounceDue w.st b = false ∧ drainDue w.st b = false) :
    expiryHere b w = w := by
  unfold expiryHere
  split
  · next hp => simp [expiry, h hp]
  · rfl

theorem takeExpiries_eq (s : State) : takeExpiries s = (sweep expiryHere allBays (Work.start s)).finish s := rfl

theorem BaysOnly.populated {w w' : Work} (h : BaysOnly w w') (b : BayIx) : w'.st.populated b = w.st.populated b := by
  rw [h.rest]
  rfl

theorem Agree.debounceDue {c : BayIx} {w w' : Work} (h : Agree c w w') : debounceDue w'.st c = debounceDue w.st c := by
  simp only [Machine.debounceDue, h.bay]

theorem Agree.drainDue {c : BayIx} {w w' : Work} (h : Agree c w w') : drainDue w'.st c = drainDue w.st c := by
  simp only [Machine.drainDue, h.bay]

/-- Where one bay's expiry alone is due, the expiries of the tick are that one. -/
theorem takeExpiries_one {s : State} {b : BayIx} (hb : s.populated b = true)
    (h : ∀ c : BayIx, c ≠ b → s.populated c = true → debounceDue s c = false ∧ drainDue s c = false) :
    takeExpiries s = (expiry b (Work.start s)).finish s := by
  have e : expiryHere b (Work.start s) = expiry b (Work.start s) := if_pos hb
  rw [takeExpiries_eq, sweep_one allBays_nodup (mem_allBays b) fun c hc => ?_, e]
  have hk := expiryHere_edits b (Work.start s)
  refine ⟨expiryHere_none (h c hc), expiryHere_none fun hp => ?_⟩
  rw [hk.frame.populated] at hp
  rw [(hk.others c hc).debounceDue, (hk.others c hc).drainDue]
  exact h c hc hp

/-- A drain that ends in DRAIN (R25). -/
theorem finish_drainExpiry_drain {s : State} {b : BayIx} (h : (s.bay b).state = .drain) :
    (drainExpiry b (Work.start s)).finish s =
      let x := { s.bay b with drainDue := false }
      if x.presence then
        (if x.removed then s.setBay b (startSettling (s.sup.debounceSetting * 10) x) else intoIdle s b x)
      else s.setBay b (emptied x) := by
  have hp : (s.bay b).powered = false := by simp [Bay.powered, h]
  have alone : ∀ y : Bay, (Work.start (s.setBay b y)).finish s = s.setBay b y := fun y => by
    rw [finish_setBay, settled_setBay_unpowered hp]
  have idle := finish_enterIdle (x := { s.bay b with state := .drain, drainDue := false }) hp rfl
  simp only [drainExpiry, Work.st_start, Work.start_setBay, State.bay_setBay_same, h]
  simp only [enterSettling_eq, enterEmpty_eq, apply_ite (Work.finish s), Work.st_start, Work.start_setBay,
    State.bay_setBay_same, State.setBay_setBay, alone, State.sup_debounceSetting_setBay, idle]

theorem FaultCause.retries_iff (c : FaultCause) :
    c.retries = true ↔ c = .noPowerGood ∨ c = .powerLost ∨ c = .overcurrent := by
  cases c <;> decide

/-- A drain that ends in FAULT: a retry, if the cause retries and the class allows one more (R27). -/
theorem finish_drainExpiry_fault {s : State} {b : BayIx} {c : ClassIx} (h : (s.bay b).state = .fault)
    (hc : (s.bay b).cls = .cls c) :
    (drainExpiry b (Work.start s)).finish s =
      let x := { s.bay b with drainDue := false }
      if (x.cause = .noPowerGood ∨ x.cause = .powerLost ∨ x.cause = .overcurrent) ∧
          x.retries < (s.driveClass c).retryLimit then
        (if x.presence then intoIdle s b { x with retries := x.retries + 1, cause := .none }
        else s.setBay b (emptied { x with retries := x.retries + 1, cause := .none }))
      else s.setBay b x := by
  have hp : (s.bay b).powered = false := by simp [Bay.powered, h]
  have alone : ∀ y : Bay, (Work.start (s.setBay b y)).finish s = s.setBay b y := fun y => by
    rw [finish_setBay, settled_setBay_unpowered hp]
  have leave := finish_leaveUnpowered
    (x := { s.bay b with state := .fault, drainDue := false, retries := (s.bay b).retries + 1, cause := .none }) hp rfl
  have limit : retryLimit (s.setBay b { s.bay b with state := .fault, drainDue := false }) b =
      (s.driveClass c).retryLimit := by
    simp [retryLimit, State.classOf, hc]
  simp only [drainExpiry, Work.st_start, Work.start_setBay, State.bay_setBay_same, h, limit]
  simp only [Bool.and_eq_true, decide_eq_true_eq, FaultCause.retries_iff, apply_ite (Work.finish s),
    State.setBay_setBay, alone, leave]

theorem expiry_drain {b : BayIx} {w : Work} (hs : (w.st.bay b).state ≠ .settling) (hd : (w.st.bay b).drainDue = true) :
    expiry b w = drainExpiry b w := by
  simp [expiry, debounceDue, drainDue, hs, hd]

theorem exec_drainExpiry_due {s : State} {b : BayIx} (hb : BayLive s b) (hd : drainDue s b = true) :
    exec (.drainExpiry b.val) s = .next (takeExpiries s) := by
  show execDrainExpiry b.val s = _
  rw [execDrainExpiry, onBay_next hb, if_pos hd]

theorem exec_debounceExpiry_due {s : State} {b : BayIx} (hb : BayLive s b) (hd : debounceDue s b = true) :
    exec (.debounceExpiry b.val) s = .next (takeExpiries s) := by
  show execDebounceExpiry b.val s = _
  rw [execDebounceExpiry, onBay_next hb, if_pos hd]

/-- Settles O11: the expiries of the tick are this one, which goes by the state. -/
theorem drainExpiryCompletes : Obligations.DrainExpiryCompletes := by
  intro s b hb hd hothers
  rw [exec_drainExpiry_due hb hd, takeExpiries_one hb.2 hothers]
  refine ⟨fun h => ?_, fun c h hc => ?_⟩
  · rw [expiry_drain (by simp [h]) hd, finish_drainExpiry_drain h]
  · rw [expiry_drain (by simp [h]) hd, finish_drainExpiry_fault h hc]

/-! ### No expiry is left due (R49) -/

/-- Neither expiry of a record is due. -/
def Bay.quiet (x : Bay) : Prop := ¬(x.state = .settling ∧ x.debounce = some 0) ∧ x.drainDue = false

theorem Bay.quiet_iff (s : State) (b : BayIx) : (s.bay b).quiet ↔ debounceDue s b = false ∧ Machine.drainDue s b = false := by
  simp [Bay.quiet, debounceDue, Machine.drainDue]

theorem obeyedRecord_idle_quiet (limit : Int) (surge : ClassIx → Nat) (interval : Nat) (policy : Policy) {x : Bay}
    (h : x.state = .idle) (hd : x.drainDue = false) : (obeyedRecord limit surge interval policy x).quiet := by
  have quiet : ∀ y : Bay, y.state ≠ .settling → y.drainDue = false → y.quiet := fun y hs hd => ⟨fun e => hs e.1, hd⟩
  unfold obeyedRecord
  rw [h]
  dsimp only
  split
  · split
    · split
      · exact quiet _ (by simp [faulted]) hd
      · exact quiet _ (by simp) hd
    · exact quiet _ (by simp [evaluated, h]) hd
  all_goals exact quiet _ (by simp [evaluated, h]) hd

theorem enterIdle_quiet {b : BayIx} {w : Work} {x : Bay} (hd : x.drainDue = false) :
    ((enterIdle b (w.setBay b x)).st.bay b).quiet := by
  unfold enterIdle readCarrier
  simp only [Work.setBay_setBay, Work.st_setBay, State.bay_setBay_same]
  split
  · unfold enterFault
    split <;> simp [removePower_eq, Work.map, unpowered, Bay.quiet, hd]
  all_goals
    rw [evaluate_bay_same]
    exact obeyedRecord_idle_quiet _ _ _ _ (by simp) (by simpa using hd)

theorem drainExpiry_quiet {b : BayIx} {w : Work} (hs : (w.st.bay b).state ≠ .settling)
    (hset : 1 ≤ w.st.sup.debounceSetting) : ((drainExpiry b w).st.bay b).quiet := by
  have still : ∀ y : Bay, y.state ≠ .settling → y.drainDue = false → y.quiet := fun y hs hd => ⟨fun e => hs e.1, hd⟩
  unfold drainExpiry
  simp only [Work.setBay_setBay, Work.st_setBay, State.bay_setBay_same]
  cases hst : (w.st.bay b).state with
  | settling => exact absurd hst hs
  | drain =>
    dsimp only
    split
    · split
      · rw [enterSettling_eq]
        simp only [Work.st_setBay, State.bay_setBay_same, startSettling, Bay.quiet, State.sup_debounceSetting_setBay]
        simp only [Option.some.injEq, true_and, and_true]
        omega
      · exact enterIdle_quiet rfl
    · rw [enterEmpty_eq]
      simpa using still _ (by simp [emptied]) (by simp [emptied])
  | fault =>
    dsimp only
    split
    · unfold leaveUnpowered
      split
      · exact enterIdle_quiet rfl
      · rw [enterEmpty_eq]
        simpa using still _ (by simp [emptied]) (by simp [emptied])
    · simpa using still _ (by simp) (by simp)
  | empty | idle | queued | surge | run => simpa using still _ (by simp) (by simp)

theorem expiry_quiet {b : BayIx} {w : Work} (h : BayMatches (w.st.bay b) (w.st.temp b))
    (hset : 1 ≤ w.st.sup.debounceSetting) : ((expiry b w).st.bay b).quiet := by
  obtain ⟨-, -, -, -, -, hdrain, -⟩ := h
  have running : (w.st.bay b).drainDue = true → (w.st.bay b).state = .drain ∨ (w.st.bay b).state = .fault := fun hd =>
    hdrain (by simp [Bay.drainRunning, hd])
  unfold expiry
  split
  · next hb =>
    simp only [debounceDue, Bool.and_eq_true, decide_eq_true_eq] at hb
    have hd : (w.st.bay b).drainDue = false := Bool.eq_false_iff.mpr fun hd => by
      have := running hd
      simp [hb.1] at this
    exact enterIdle_quiet hd
  · next hb =>
    split
    · next hd => exact drainExpiry_quiet (fun e => by have := running hd; simp [e] at this) hset
    · next hd => exact (Bay.quiet_iff _ _).mpr ⟨by simpa using hb, by simpa using hd⟩

theorem attempt_quiet {s : State} {b : BayIx} (h : (s.bay b).quiet) : ((attempt s).bay b).quiet := by
  rcases (attempt_onlyAdmits s).bay b with e | ⟨-, c, -, e⟩
  · rwa [e]
  · rw [e]
    exact ⟨by simp [admitted], h.2⟩

theorem Work.bay_finish_quiet {s : State} {w : Work} {b : BayIx} (h : (w.st.bay b).quiet) :
    ((w.finish s).bay b).quiet := by
  unfold Work.finish
  split
  · exact attempt_quiet (s := w.entered) h
  · exact h

theorem takeExpiries_quiet {s : State} (hm : BaysMatch s) (hset : 1 ≤ s.sup.debounceSetting) {c : BayIx}
    (hc : s.populated c = true) : ((takeExpiries s).bay c).quiet := by
  rw [takeExpiries_eq]
  refine Work.bay_finish_quiet ?_
  obtain ⟨w', hf, ha, he⟩ :=
    sweep_at expiryHere_edits allBays_nodup (mem_allBays c) (Work.start s)
  have hp : w'.st.populated c = true := (hf.populated c).trans hc
  have hset' : 1 ≤ w'.st.sup.debounceSetting := by rw [hf.rest]; exact hset
  have hm' : BayMatches (w'.st.bay c) (w'.st.temp c) := by rw [ha.bay, ha.temp]; exact hm c
  have here : expiryHere c w' = expiry c w' := if_pos hp
  rw [he.bay, here]
  exact expiry_quiet hm' hset'

/-! ### Bays whose debounce expires together and which then want power (R8, R11, R14, R49) -/

theorem enterIdle_cls {w : Work} {s : State} {b : BayIx} {x : Bay} {k : ClassIx} (hs : w.st = s)
    (ha : classAnswer s b (s.seen b).carrier = .cls k) :
    enterIdle b (w.setBay b x) = evaluate b (w.setBay b
      { x with
        carrier := (s.seen b).carrier, state := .idle, cls := .cls k, cause := .none, debounce := none
        removed := false }) := by
  subst hs
  unfold enterIdle readCarrier
  simp only [Work.setBay_setBay, Work.st_setBay, State.bay_setBay_same, State.seen_setBay, resolution_eq,
    classAnswer_setBay, ha]

end Sys2Proof.Machine
end

section
/-! PROOFS. Events that bring several bays to the queue together: debounce expiries of one tick, and the requests of one
frame (R49). -/

namespace Sys2Proof.Machine

open Sys2Proof.Safety

/-! ### Several bays entered by one event -/

/-- What an event makes of a bay that it brings to the queue: its record and lights, and the end it enters at. -/
structure Entry where
  record : Bay
  lights : BayLights
  head : Bool

/-- The record and lights written, and the entry asked for. -/
def Entry.take (b : BayIx) (e : Entry) (w : Work) : Work :=
  let w := (w.map (·.setBayLights b e.lights)).setBay b e.record
  if e.head then w.enterHead b else w.enterTail b

/-- t is s but for the records and lights of other bays than b. -/
structure Untouched (s : State) (b : BayIx) (t : State) : Prop where
  rest : t = { s with sup := { s.sup with bays := t.sup.bays }, ind := { s.ind with bays := t.ind.bays } }
  bay : t.bay b = s.bay b
  lights : t.bayLights b = s.bayLights b

theorem Untouched.refl (s : State) (b : BayIx) : Untouched s b s := ⟨rfl, rfl, rfl⟩

section Entry

variable {b c : BayIx} {e : Entry} {w : Work}

theorem Entry.take_rest (b : BayIx) (e : Entry) (w : Work) :
    (e.take b w).st =
      { w.st with
        sup := { w.st.sup with bays := (e.take b w).st.sup.bays }
        ind := { w.st.ind with bays := (e.take b w).st.ind.bays } } := by
  unfold Entry.take
  dsimp only
  split <;> rfl

theorem Entry.take_same : (e.take b w).st.bay b = e.record ∧ (e.take b w).st.bayLights b = e.lights := by
  unfold Entry.take
  dsimp only
  split <;> simp [Work.setBay, Work.map]

theorem Entry.take_other (h : c ≠ b) :
    (e.take b w).st.bay c = w.st.bay c ∧ (e.take b w).st.bayLights c = w.st.bayLights c := by
  unfold Entry.take
  dsimp only
  split <;> simp [Work.setBay, Work.map, h]

theorem Entry.mem_tails_take (hb : b ∉ w.tails) :
    c ∈ (e.take b w).tails ↔ c ∈ w.tails ∨ (b = c ∧ e.head = false) := by
  unfold Entry.take
  dsimp only
  split
  · next he =>
    simp only [Work.setBay, Work.map, Work.enterHead, he]
    grind
  · next he =>
    simp only [Work.setBay, Work.map, Work.enterTail, he]
    grind

theorem Entry.mem_heads_take : c ∈ (e.take b w).heads ↔ c ∈ w.heads ∨ (b = c ∧ e.head = true) := by
  unfold Entry.take
  dsimp only
  split
  · next he =>
    simp only [Work.setBay, Work.map, Work.enterHead, he]
    grind
  · next he =>
    simp only [Work.setBay, Work.map, Work.enterTail, he]
    grind

theorem Untouched.take {s : State} (h : Untouched s c w.st) (hc : c ≠ b) : Untouched s c (e.take b w).st where
  rest := by
    rw [Entry.take_rest, h.rest]
  bay := (Entry.take_other hc).1.trans h.bay
  lights := (Entry.take_other hc).2.trans h.lights

end Entry

section Enrolled

variable {α : Type} {bay : α → BayIx} {e : α → Option Entry}

/-- w' is w with the bays of a list of items entered, those of the items that bring an entry. -/
structure Enrolled (bay : α → BayIx) (e : α → Option Entry) (l : List α) (w w' : Work) : Prop where
  rest : w'.st =
    { w.st with sup := { w.st.sup with bays := w'.st.sup.bays }, ind := { w.st.ind with bays := w'.st.ind.bays } }
  own : ∀ a ∈ l, ∀ x, e a = some x → w'.st.bay (bay a) = x.record ∧ w'.st.bayLights (bay a) = x.lights
  others : ∀ b, (∀ a ∈ l, bay a = b → e a = none) →
    w'.st.bay b = w.st.bay b ∧ w'.st.bayLights b = w.st.bayLights b
  tails : ∀ b, b ∈ w'.tails ↔ b ∈ w.tails ∨ ∃ a ∈ l, bay a = b ∧ ∃ x, e a = some x ∧ x.head = false
  heads : ∀ b, b ∈ w'.heads ↔ b ∈ w.heads ∨ ∃ a ∈ l, bay a = b ∧ ∃ x, e a = some x ∧ x.head = true

/-- A sweep whose operations each enter their own bay or do nothing, where the bay is as it was at the start. -/
theorem enrolled_foldl {s : State} {k : Work → α → Work} (l : List α)
    (hk : ∀ a ∈ l, ∀ w : Work, Untouched s (bay a) w.st →
      k w a = (match e a with | none => w | some x => x.take (bay a) w))
    (hn : (l.map bay).Nodup) (w : Work) (hw : ∀ a ∈ l, Untouched s (bay a) w.st ∧ bay a ∉ w.tails) :
    Enrolled bay e l w (l.foldl k w) := by
  induction l generalizing w with
  | nil => exact ⟨rfl, by simp, by simp, by simp, by simp⟩
  | cons a l ih =>
    obtain ⟨ha, hn⟩ := List.nodup_cons.mp hn
    have apart : ∀ a' ∈ l, bay a' ≠ bay a := fun a' h' eq => ha (List.mem_map.mpr ⟨a', h', eq⟩)
    have next := ih (fun a' h' => hk a' (List.mem_cons_of_mem _ h')) hn
    obtain ⟨hu, ht⟩ := hw a List.mem_cons_self
    rw [List.foldl_cons, hk a List.mem_cons_self w hu]
    cases hea : e a with
    | none =>
      have r := next w fun a' h' => hw a' (List.mem_cons_of_mem _ h')
      dsimp only
      refine ⟨r.rest, ?_, fun b hb => r.others b fun a' h' => hb a' (List.mem_cons_of_mem _ h'), fun b => ?_, fun b => ?_⟩
      · intro a' h' x hx
        rcases List.mem_cons.mp h' with rfl | h'
        · rw [hea] at hx
          cases hx
        · exact r.own a' h' x hx
      · rw [r.tails]
        simp [hea]
      · rw [r.heads]
        simp [hea]
    | some x =>
      have r := next (x.take (bay a) w) fun a' h' => by
        obtain ⟨hu', ht'⟩ := hw a' (List.mem_cons_of_mem _ h')
        refine ⟨hu'.take (apart a' h'), ?_⟩
        rw [Entry.mem_tails_take ht, not_or]
        exact ⟨ht', fun eq => apart a' h' eq.1.symm⟩
      dsimp only
      refine ⟨?_, ?_, fun b hb => ?_, fun b => ?_, fun b => ?_⟩
      · rw [r.rest, Entry.take_rest]
      · intro a' h' y hy
        rcases List.mem_cons.mp h' with rfl | h'
        · rw [hea] at hy
          cases hy
          obtain ⟨h1, h2⟩ := r.others (bay a') fun a'' h'' eq => absurd eq (apart a'' h'')
          exact ⟨h1.trans Entry.take_same.1, h2.trans Entry.take_same.2⟩
        · exact r.own a' h' y hy
      · obtain ⟨h1, h2⟩ := r.others b fun a' h' => hb a' (List.mem_cons_of_mem _ h')
        have hne : b ≠ bay a := fun eq => by
          have := hb a List.mem_cons_self eq.symm
          rw [hea] at this
          cases this
        obtain ⟨k1, k2⟩ := Entry.take_other (e := x) (w := w) hne
        exact ⟨h1.trans k1, h2.trans k2⟩
      · rw [r.tails, Entry.mem_tails_take ht]
        simp [hea, or_assoc]
      · rw [r.heads, Entry.mem_heads_take]
        simp [hea, or_assoc]

end Enrolled

/-- What a group entry makes of the queue depends on who asks, not on the order. -/
theorem groupedQueue_congr {q t t' h h' : List BayIx} (ht : ∀ c, c ∈ t ↔ c ∈ t') (hh : ∀ c, c ∈ h ↔ c ∈ h') :
    groupedQueue q t h = groupedQueue q t' h' := by
  simp only [groupedQueue, ht, hh]

/-- An event that some bay asks an entry of ends with the group entered and one attempt. -/
theorem Work.finish_entries {w : Work} {b : BayIx} (s : State) (h : b ∈ w.tails ∨ b ∈ w.heads) :
    w.finish s = attempt w.entered := by
  have asked : (w.owed || !w.tails.isEmpty || !w.heads.isEmpty || fellOrCleared s w.entered) = true := by
    rcases h with h | h <;> simp [List.ne_nil_of_mem h]
  rw [Work.finish, if_pos asked]

/-! ### The debounce expiries of one tick (R8, R11, R14) -/

/-- The record of a bay whose debounce expires and which wants power, resolved to class k. -/
def debounced (s : State) (c : BayIx) (k : ClassIx) : Bay :=
  { s.bay c with
    state := .queued, cls := .cls k, carrier := (s.seen c).carrier, cause := .none, debounce := none
    removed := false, attn := { (s.bay c).attn with presence := true } }

/-- The entry of a bay whose debounce expires, if its class is one. -/
def debounceEntry (s : State) (c : BayIx) : Option Entry :=
  if s.populated c && debounceDue s c then
    match classAnswer s c (s.seen c).carrier with
    | .cls k => some ⟨debounced s c k, s.bayLights c, false⟩
    | .blank | .unsupported => none
  else none

theorem debounceEntry_some {s : State} {c : BayIx} {k : ClassIx} (hp : s.populated c = true)
    (hd : debounceDue s c = true) (ha : classAnswer s c (s.seen c).carrier = .cls k) :
    debounceEntry s c = some ⟨debounced s c k, s.bayLights c, false⟩ := by
  simp [debounceEntry, hp, hd, ha]

theorem debounceEntry_eq_some {s : State} {c : BayIx} {x : Entry} (h : debounceEntry s c = some x) :
    x.lights = s.bayLights c ∧ x.head = false := by
  unfold debounceEntry at h
  split at h
  · split at h <;> cases h
    exact ⟨rfl, rfl⟩
  · cases h

theorem Bay.expedite_self {x : Bay} (h : x.expedite = false) : { x with expedite := false } = x := by
  cases x
  cases h
  rfl

/-- A bay of a drive class within the budget that wants power enters the queue from IDLE, at the end its flag says. -/
theorem evaluate_idle_enters {w : Work} {s : State} {b : BayIx} {x : Bay} {k : ClassIx} (hs : w.st = s)
    (hst : x.state = .idle) (hc : x.cls = .cls k) (hw : wants (s.bayCfg b).policy x = true)
    (hb : overBudget s k = false) :
    evaluate b (w.setBay b x) =
      if (evaluated x).expedite then (w.setBay b { x with state := .queued, expedite := false }).enterHead b
      else (w.setBay b { x with state := .queued, expedite := false }).enterTail b := by
  subst hs
  have hb' : overBudget (w.st.setBay b x) k = false := hb
  rw [evaluate_idle_cls (s := w.st.setBay b x) (x := x) rfl (State.bay_setBay_same ..) hst hc]
  simp only [State.bayCfg_setBay, hw, hb', if_true, Bool.false_eq_true, if_false]
  rw [Work.setBay_setBay, enterQueued_setBay]
  cases he : (evaluated x).expedite
  · rw [evaluated_of_expedite he]
  · rfl

/-- The same for a bay that is not expedited. -/
theorem evaluate_enters_tail {w : Work} {s : State} {b : BayIx} {x : Bay} {k : ClassIx} (hs : w.st = s)
    (hst : x.state = .idle) (hc : x.cls = .cls k) (hw : wants (s.bayCfg b).policy x = true)
    (hb : overBudget s k = false) (he : (evaluated x).expedite = false) :
    evaluate b (w.setBay b x) = (w.setBay b { x with state := .queued }).enterTail b := by
  have hx : x.expedite = false := by rw [← evaluated_of_expedite he, he]
  have hr := Bay.expedite_self (x := { x with state := .queued }) hx
  rw [evaluate_idle_enters hs hst hc hw hb, he, if_neg Bool.false_ne_true]
  exact congrArg (fun y => (w.setBay b y).enterTail b) hr

theorem Work.map_setBayLights_self {w : Work} {b : BayIx} : w.map (·.setBayLights b (w.st.bayLights b)) = w := by
  simp [Work.map]

theorem debounceExpiry_enters {s : State} {w : Work} {c : BayIx} {k : ClassIx} (hu : Untouched s c w.st)
    (ha : classAnswer s c (s.seen c).carrier = .cls k) (hw : wants (s.bayCfg c).policy (s.bay c) = true)
    (he : (evaluated (s.bay c)).expedite = false)
    (hb : ((s.driveClass k).surge : Int) ≤ s.acct.ceiling - s.acct.guardBand) :
    debounceExpiry c w = Entry.take c ⟨debounced s c k, s.bayLights c, false⟩ w := by
  have hseen : w.st.seen c = s.seen c := by rw [hu.rest]; rfl
  have hcfg : w.st.bayCfg c = s.bayCfg c := by rw [hu.rest]; rfl
  have hans : classAnswer w.st c (w.st.seen c).carrier = .cls k := by rw [← ha, hu.rest]; rfl
  have hover : overBudget w.st k = false := by
    have e : overBudget w.st k = overBudget s k := by rw [hu.rest]; rfl
    rw [e, Bool.eq_false_iff, ne_eq, overBudget_iff]
    omega
  unfold debounceExpiry
  rw [enterIdle_cls (w := w) rfl hans,
    evaluate_enters_tail (w := w) (k := k) rfl rfl rfl (by rw [hcfg, hu.bay]; exact hw) hover (by rw [hu.bay]; exact he)]
  simp only [Entry.take, Bool.false_eq_true, if_false, ← hu.lights, Work.map_setBayLights_self]
  simp [hu.bay, hseen, Bay.raise, debounced]

theorem expiryHere_entry {s : State} {w : Work} {c : BayIx} (hu : Untouched s c w.st)
    (hdrain : s.populated c = true → drainDue s c = false)
    (h : s.populated c = true → debounceDue s c = true →
      wants (s.bayCfg c).policy (s.bay c) = true ∧ (evaluated (s.bay c)).expedite = false ∧
        ∃ k, classAnswer s c (s.seen c).carrier = .cls k ∧
          ((s.driveClass k).surge : Int) ≤ s.acct.ceiling - s.acct.guardBand) :
    expiryHere c w = (match debounceEntry s c with | none => w | some x => x.take c w) := by
  have hpop : w.st.populated c = s.populated c := by rw [hu.rest]; rfl
  have hdeb : debounceDue w.st c = debounceDue s c := by simp only [debounceDue, hu.bay]
  have hdr : drainDue w.st c = drainDue s c := by simp only [drainDue, hu.bay]
  cases hp : s.populated c with
  | false => simp [expiryHere, hpop, hp, debounceEntry]
  | true =>
    cases hd : debounceDue s c with
    | false => simp [expiryHere, hpop, hp, debounceEntry, expiry, hdeb, hd, hdr, hdrain hp]
    | true =>
      obtain ⟨hw, he, k, ha, hb⟩ := h hp hd
      rw [debounceEntry_some hp hd ha]
      simp only [expiryHere, hpop, hp, if_true, expiry, hdeb, hd]
      exact debounceExpiry_enters hu ha hw he hb

theorem State.bayLights_ext {s t : State} (h : ∀ b, t.bayLights b = s.bayLights b) : t.ind.bays = s.ind.bays :=
  Vector.ext fun i hi => h ⟨i, hi⟩

section Debounces

variable {s : State}
  (hall : ∀ c : BayIx, s.populated c = true → debounceDue s c = true →
    wants (s.bayCfg c).policy (s.bay c) = true ∧ (evaluated (s.bay c)).expedite = false ∧
      ∃ k, classAnswer s c (s.seen c).carrier = .cls k ∧
        ((s.driveClass k).surge : Int) ≤ s.acct.ceiling - s.acct.guardBand)

include hall

theorem enrolled_debounces (hdrain : ∀ c : BayIx, s.populated c = true → drainDue s c = false) :
    Enrolled id (debounceEntry s) allBays (Work.start s) (sweep expiryHere allBays (Work.start s)) :=
  enrolled_foldl (s := s) (k := fun w b => expiryHere b w) allBays
    (fun c _ _ hu => expiryHere_entry hu (hdrain c) (hall c)) (by rw [List.map_id']; exact allBays_nodup) (Work.start s)
    fun c _ => ⟨.refl s c, List.not_mem_nil⟩

theorem mem_debounces (c : BayIx) :
    (∃ a ∈ allBays, id a = c ∧ ∃ x, debounceEntry s a = some x ∧ x.head = false) ↔
      s.populated c = true ∧ debounceDue s c = true := by
  constructor
  · rintro ⟨a, -, rfl, x, hx, -⟩
    unfold debounceEntry at hx
    split at hx
    · next h => simpa using h
    · cases hx
  · rintro ⟨hp, hd⟩
    obtain ⟨-, -, k, ha, -⟩ := hall c hp hd
    exact ⟨c, mem_allBays c, rfl, _, debounceEntry_some hp hd ha, rfl⟩

end Debounces

/-- Settles O10: one expiry goes the way of `intoIdle`; the sweep leaves none due; and a sweep of expiries that all bring
their bays to the tail enters them together. -/
theorem debounceExpiryCompletes : Obligations.DebounceExpiryCompletes := by
  intro s b hb
  have due : (s.bay b).state = .settling → (s.bay b).debounce = some 0 → debounceDue s b = true := fun hst hd => by
    simp [debounceDue, hst, hd]
  refine ⟨fun hst hd hothers => ?_, fun hm hset _ => ?_, fun hst hd hdrain hall => ?_⟩
  · have hdue := due hst hd
    have hp : (s.bay b).powered = false := by simp [Bay.powered, hst]
    have e : expiry b (Work.start s) = enterIdle b (Work.start (s.setBay b
        { s.bay b with attn := { (s.bay b).attn with presence := true } })) := by
      simp [expiry, hdue, debounceExpiry, Bay.raise]
    rw [exec_debounceExpiry_due hb hdue, takeExpiries_one hb.2 hothers, e, finish_enterIdle hp (by exact hp)]
  · refine ⟨takeExpiries s, exec_debounceExpiry_due hb, exec_drainExpiry_due hb, fun c hc => ?_⟩
    rw [← Bay.quiet_iff]
    exact takeExpiries_quiet hm hset hc
  · have hdue := due hst hd
    have r := enrolled_debounces hall hdrain
    have mem : ∀ c, c ∈ (sweep expiryHere allBays (Work.start s)).tails ↔
        s.populated c = true ∧ debounceDue s c = true := fun c => by
      rw [r.tails, mem_debounces hall]
      simp [Work.start]
    have none_heads : ∀ c, c ∉ (sweep expiryHere allBays (Work.start s)).heads := fun c => by
      rw [r.heads]
      simp only [Work.start, List.not_mem_nil, false_or, not_exists, not_and]
      intro c' _ _ x hx
      simp [(debounceEntry_eq_some hx).2]
    have asked := (mem b).mpr ⟨hb.2, hdue⟩
    have ends := takeExpiries_eq s
    generalize sweep expiryHere allBays (Work.start s) = w at r mem none_heads asked ends
    have bays : ∀ c, w.entered.bay c = w.st.bay c := fun _ => rfl
    refine ⟨w.entered, ?_, ?_, fun c k hp hd ha => ?_, fun c hc => ?_⟩
    · rw [exec_debounceExpiry_due hb hdue, ends, Work.finish_entries s (.inl asked)]
    · have lights : w.st.ind.bays = s.ind.bays := State.bayLights_ext fun c => by
        cases hx : debounceEntry s c with
        | none => exact (r.others c fun c' _ (e : c' = c) => by rw [e]; exact hx).2
        | some x => exact (r.own c (mem_allBays c) x hx).2.trans (debounceEntry_eq_some hx).1
      have queue : groupedQueue s.sched.queue w.tails w.heads =
          s.sched.queue ++ allBays.filter fun c => s.populated c && debounceDue s c := by
        simp [groupedQueue, mem, none_heads]
      have rest := r.rest
      rw [lights] at rest
      rw [Work.entered, rest]
      simp only [Work.st_start, queue]
    · rw [bays]
      exact (r.own c (mem_allBays c) _ (debounceEntry_some hp hd ha)).1
    · have none : debounceEntry s c = none := by rcases hc with hc | hc <;> simp [debounceEntry, hc]
      rw [bays]
      exact (r.others c fun c' _ (e : c' = c) => by rw [e]; exact none).1

end Sys2Proof.Machine
end

section
/-! PROOFS. The requests of a frame (R143, R161, R49). -/

namespace Sys2Proof.Machine

open Sys2Proof.Safety

theorem requestIntent_eq (r : Byte) :
    requestIntent r =
      (match r.getLsbD 6, r.getLsbD 5 with
      | false, false => .follow
      | false, true => .on
      | true, false => .off
      | true, true => .onExpedite) := by
  have h6 : r.getLsbD 6 = decide (r.toNat / 64 % 2 = 1) := by
    rw [← BitVec.testBit_toNat, Nat.testBit_eq_decide_div_mod_eq]
  have h5 : r.getLsbD 5 = decide (r.toNat / 32 % 2 = 1) := by
    rw [← BitVec.testBit_toNat, Nat.testBit_eq_decide_div_mod_eq]
  have cases : r.toNat / 32 % 4 = 0 ∨ r.toNat / 32 % 4 = 1 ∨ r.toNat / 32 % 4 = 2 ∨ r.toNat / 32 % 4 = 3 := by omega
  unfold requestIntent
  rw [h6, h5]
  rcases cases with h | h | h | h
  · have e6 : ¬ r.toNat / 64 % 2 = 1 := by omega
    have e5 : ¬ r.toNat / 32 % 2 = 1 := by omega
    simp [h, e6, e5]
  · have e6 : ¬ r.toNat / 64 % 2 = 1 := by omega
    have e5 : r.toNat / 32 % 2 = 1 := by omega
    simp [h, e6, e5]
  · have e6 : r.toNat / 64 % 2 = 1 := by omega
    have e5 : ¬ r.toNat / 32 % 2 = 1 := by omega
    simp [h, e6, e5]
  · have e6 : r.toNat / 64 % 2 = 1 := by omega
    have e5 : r.toNat / 32 % 2 = 1 := by omega
    simp [h, e6, e5]

/-! ### One request -/

/-- The indicator code of a request taken (R143). -/
def coded (b : BayIx) (r : Byte) (s : State) : State :=
  s.setBayLights b { s.bayLights b with loopCode := requestCode r }

theorem applyRequest_invalid {w : Work} {b : BayIx} {r : Byte} (h : r.getLsbD 7 = false) : applyRequest w (b, r) = w :=
  if_neg (by simpa [requestValid] using h)

theorem applyRequest_same {w : Work} {b : BayIx} {r : Byte} (h : r.getLsbD 7 = true)
    (hi : (w.st.bay b).loopIntent = requestIntent r) : applyRequest w (b, r) = w.map (coded b r) :=
  (if_pos h).trans (if_pos hi)

theorem applyRequest_new {w : Work} {b : BayIx} {r : Byte} (h : r.getLsbD 7 = true)
    (hi : (w.st.bay b).loopIntent ≠ requestIntent r) :
    applyRequest w (b, r) =
      evaluate b ((w.map (coded b r)).setBay b { w.st.bay b with loopIntent := requestIntent r }) :=
  (if_pos h).trans (if_neg hi)

theorem committed_coded (b : BayIx) (r : Byte) (s : State) : (coded b r s).committed = s.committed :=
  State.committed_congr fun _ => State.draw_congr rfl rfl rfl

theorem applyRequests_one {s : State} {q : BayIx × Byte} (h : s.loop.frame.requests = [q]) :
    applyRequests s = (applyRequest (Work.start s) q).finish s := by
  rw [applyRequests, h]
  rfl

/-- Changes that neither ask for anything nor move the committed draw, the account or the zones. -/
theorem Work.finish_start_alike {s t : State} (hd : t.committed = s.committed) (ha : t.acct = s.acct)
    (hz : t.cool.zones = s.cool.zones) : (Work.start t).finish s = t := by
  rw [Work.finish_start ha hz, settled_of_committed hd, settled_eq_of_le (Nat.le_refl _)]

theorem applyRequests_one_new {s : State} {b : BayIx} {r : Byte} (hq : s.loop.frame.requests = [(b, r)])
    (h : r.getLsbD 7 = true) (hi : (s.bay b).loopIntent ≠ requestIntent r) :
    applyRequests s = obeyed (coded b r s) b { s.bay b with loopIntent := requestIntent r } := by
  rw [applyRequests_one hq, applyRequest_new h hi]
  exact finish_evaluate_setBay (committed_coded b r s) rfl rfl (State.draw_setBay_alike rfl rfl)

/-! ### Requests that bring their bays to the queue -/

/-- The request leads to an entry at the head. -/
def requestHead (s : State) (p : BayIx × Byte) : Bool :=
  decide (requestIntent p.2 = .onExpedite) || (s.bay p.1).expedite

/-- The entry a request brings. -/
def requestEntry (s : State) (p : BayIx × Byte) : Entry :=
  ⟨{ s.bay p.1 with state := .queued, loopIntent := requestIntent p.2, expedite := false },
    { s.bayLights p.1 with loopCode := requestCode p.2 }, requestHead s p⟩

/-- A request that turns its bay on, in IDLE or to be moved to the head, within the budget. -/
structure Enlists (s : State) (p : BayIx × Byte) : Prop where
  valid : p.2.getLsbD 7 = true
  unmanaged : (s.bay p.1).mgmtIntent = .none
  new : (s.bay p.1).loopIntent ≠ requestIntent p.2
  on : requestIntent p.2 = .on ∨ requestIntent p.2 = .onExpedite
  state : (s.bay p.1).state = .idle ∨ ((s.bay p.1).state = .queued ∧ requestHead s p = true)
  fits : ∃ k, (s.bay p.1).cls = .cls k ∧ ((s.driveClass k).surge : Int) ≤ s.acct.ceiling - s.acct.guardBand

theorem wants_of_loop {x : Bay} (p : Policy) (hm : x.mgmtIntent = .none)
    (hl : x.loopIntent = .on ∨ x.loopIntent = .onExpedite) : wants p x = true := by
  rcases hl with hl | hl <;> simp [wants, hm, hl]

theorem evaluated_expedite_of_loop {x : Bay} (hm : x.mgmtIntent = .none) :
    (evaluated x).expedite = (decide (x.loopIntent = .onExpedite) || x.expedite) := by
  simp [evaluated, hm, Bool.or_comm]

theorem applyRequest_enlists {s : State} {w : Work} {p : BayIx × Byte} (hu : Untouched s p.1 w.st) (h : Enlists s p) :
    applyRequest w p = (requestEntry s p).take p.1 w := by
  obtain ⟨b, r⟩ := p
  obtain ⟨hvalid, hmgmt, hnew, hon, hstate, k, hcls, hfits⟩ := h
  have hbay := hu.bay
  have hlights := hu.lights
  dsimp only at *
  have hcoded : w.map (coded b r) = w.map (·.setBayLights b { s.bayLights b with loopCode := requestCode r }) := by
    simp only [coded, Work.map, hlights]
  have hover : overBudget (w.map (coded b r)).st k = false := by
    have e : overBudget (w.map (coded b r)).st k = overBudget s k := by
      show overBudget w.st k = _
      rw [hu.rest]
      rfl
    rw [e, Bool.eq_false_iff, ne_eq, overBudget_iff]
    omega
  rw [applyRequest_new hvalid (by rwa [hbay]), hbay]
  have hwants : ∀ p, wants p { s.bay b with loopIntent := requestIntent r } = true := fun p => wants_of_loop p hmgmt hon
  have hhead : (evaluated { s.bay b with loopIntent := requestIntent r }).expedite = requestHead s (b, r) :=
    evaluated_expedite_of_loop hmgmt
  rcases hstate with hst | ⟨hst, hh⟩
  · rw [evaluate_idle_enters (x := { s.bay b with loopIntent := requestIntent r }) rfl hst hcls (hwants _) hover, hhead, hcoded]
    rfl
  · rw [evaluate_queued (x := { s.bay b with loopIntent := requestIntent r }) rfl (State.bay_setBay_same ..) hst,
      if_pos (hwants _), hhead, if_pos hh, hcoded, Work.setBay_setBay]
    unfold Entry.take requestEntry
    dsimp only
    rw [if_pos hh]
    simp only [evaluated, hst]

theorem enrolled_requests {s : State} (hq : (s.loop.frame.requests.map (·.1)).Nodup)
    (h : ∀ p ∈ s.loop.frame.requests, Enlists s p) :
    Enrolled (·.1) (fun p => some (requestEntry s p)) s.loop.frame.requests (Work.start s)
      (s.loop.frame.requests.foldl applyRequest (Work.start s)) :=
  enrolled_foldl (s := s) s.loop.frame.requests (fun p hp _ hu => applyRequest_enlists hu (h p hp)) hq (Work.start s)
    fun p _ => ⟨.refl s p.1, List.not_mem_nil⟩

theorem exists_entry_head (s : State) (q : List (BayIx × Byte)) (c : BayIx) (v : Bool) :
    (∃ p ∈ q, p.1 = c ∧ ∃ x, some (requestEntry s p) = some x ∧ x.head = v) ↔
      c ∈ (q.filter fun p => requestHead s p == v).map (·.1) := by
  simp only [List.mem_map, List.mem_filter, Option.some.injEq, exists_eq_left', beq_iff_eq]
  constructor
  · rintro ⟨p, hp, hc, hh⟩
    exact ⟨p, ⟨hp, hh⟩, hc⟩
  · rintro ⟨p, ⟨hp, hh⟩, hc⟩
    exact ⟨p, hp, hc, hh⟩

/-- Settles O34: requests that bring their bays to the queue enter them together; one request alone goes by its valid bit
and its intent. -/
theorem slotRequestApplied : Obligations.SlotRequestApplied := by
  refine ⟨fun r => ⟨requestIntent_eq r, rfl⟩, fun s => ?_, fun s b r hq => ⟨fun h => ?_, fun h hi => ?_, fun h hi => ?_⟩⟩
  · intro q head heads tails _ hne hn hall
    have enlists : ∀ p ∈ q, Enlists s p := fun p hp => by
      obtain ⟨h1, h2, h3, h4, h5, h6⟩ := hall p hp
      exact ⟨h1, h2, h3, h4, h5, h6⟩
    have r := enrolled_requests hn enlists
    have mem_tails : ∀ c, c ∈ (q.foldl applyRequest (Work.start s)).tails ↔ c ∈ tails := fun c => by
      rw [r.tails]
      rw [exists_entry_head]
      simp only [beq_false, Work.start, List.not_mem_nil, false_or]
      rfl
    have mem_heads : ∀ c, c ∈ (q.foldl applyRequest (Work.start s)).heads ↔ c ∈ heads := fun c => by
      rw [r.heads]
      rw [exists_entry_head]
      simp only [beq_true, Work.start, List.not_mem_nil, false_or]
      rfl
    have ends : applyRequests s = (q.foldl applyRequest (Work.start s)).finish s := rfl
    generalize q.foldl applyRequest (Work.start s) = w at r mem_tails mem_heads ends
    obtain ⟨p, hp⟩ := List.exists_mem_of_ne_nil q hne
    have asked : p.1 ∈ w.tails ∨ p.1 ∈ w.heads := by
      rw [mem_tails, mem_heads]
      cases hh : head p
      · exact .inl (List.mem_map_of_mem (List.mem_filter.mpr ⟨hp, by simp [hh]⟩))
      · exact .inr (List.mem_map_of_mem (List.mem_filter.mpr ⟨hp, hh⟩))
    have bays : ∀ c, w.entered.bay c = w.st.bay c := fun _ => rfl
    have lights : ∀ c, w.entered.bayLights c = w.st.bayLights c := fun _ => rfl
    refine ⟨w.entered, ?_, ?_, fun p hp => ?_, fun b hb => ?_⟩
    · rw [ends, Work.finish_entries s asked]
    · have queue : groupedQueue s.sched.queue w.tails w.heads =
          (allBays.filter fun b => decide (b ∈ heads)).reverse ++
            (s.sched.queue.filter fun b => decide (b ∉ heads)) ++ allBays.filter fun b => decide (b ∈ tails) := by
        rw [groupedQueue_congr mem_tails mem_heads, groupedQueue, List.append_assoc]
      rw [Work.entered, r.rest]
      simp only [Work.st_start, queue]
    · rw [bays, lights]
      exact r.own p hp _ rfl
    · rw [bays, lights]
      exact r.others b fun p hp e => absurd (e ▸ List.mem_map_of_mem hp) hb
  · rw [applyRequests_one hq, applyRequest_invalid h]
    exact Work.finish_start_alike rfl rfl rfl
  · rw [applyRequests_one hq, applyRequest_same h hi]
    exact Work.finish_start_alike (committed_coded b r s) rfl rfl
  · exact applyRequests_one_new hq h hi

end Sys2Proof.Machine
end

section
/-! PROOFS. The full reset and the invariants right after it (R36, R50, R57, R83, R86, R127, R185 to R189). -/

namespace Sys2Proof.Machine

open Sys2Proof.Safety

/-- The state right after a power-on reset is its own full reset. -/
theorem fullReset_reset : fullReset .powerOn State.reset = State.reset := rfl

theorem fullReset_queueMatches (cause : ResetCause) (s : State) : QueueMatches (fullReset cause s) := by
  refine ⟨List.nodup_nil, fun b => ?_⟩
  rw [bay_fullReset]
  simp [fullReset, State.reset, defaultBay]

theorem fullReset_baysMatch (cause : ResetCause) (s : State) : BaysMatch (fullReset cause s) := fun b => by
  rw [bay_fullReset, temp_fullReset]
  decide

theorem fullReset_presenceMatches (cause : ResetCause) (s : State) : PresenceMatches (fullReset cause s) := fun b => by
  rw [bay_fullReset]
  decide

theorem reset_coolingMatches : CoolingMatches State.reset := by
  refine ⟨by decide, by decide, by decide, by decide, by decide⟩

theorem reset_mapResolved : MapResolved State.reset := by
  decide

/-- Settles O53. -/
theorem invariantsHoldAtReset : Obligations.InvariantsHoldAtReset := by
  unfold Obligations.InvariantsHoldAtReset
  rw [← fullReset_reset]
  exact ⟨fullReset_queueMatches .., by decide, fun b => fullReset_baysMatch _ _ b, fun b => fullReset_presenceMatches _ _ b,
    fun b => fullReset_absentStayDefault _ _ b, reset_coolingMatches, reset_mapResolved, nofun, fullReset_readingsInRange ..,
    fullReset_lightsInRange .., fullReset_entriesInRange .., fullReset_settingsInRange ..⟩

/-! ### What a full reset leaves -/

theorem fullReset_bayCfg (cause : ResetCause) (s : State) (b : BayIx) :
    (fullReset cause s).bayCfg b = defaultBayCfg (sampleStraps s.io.pins.straps).policy b := by
  simp [fullReset, State.bayCfg, defaultCfg, Vector.get_eq_getElem]

theorem fullReset_channel (cause : ResetCause) (s : State) (ch : ChannelIx) :
    (fullReset cause s).channel ch = ⟨0, 0, 0, false⟩ := by
  simp [fullReset, State.reset, State.channel, Vector.get_eq_getElem, defaultChannel]

theorem reset_pwm (f : FanIx) : State.reset.io.out.pwm.get f = if f.val < 4 then 200 else 0 := by
  revert f
  decide

/-- The power-on trigger ends, and the pin does not hold the part. -/
theorem exec_powerOnEnd_last {s : State} (hpow : s.rst.powerOn = true) (hpin : s.rst.pin = false) :
    exec (.resetTriggerEnd .powerOn) s = .next (fullReset (if s.rst.sawPowerOn then .powerOn else .pin) s) := by
  have held : s.inReset = true := by simp [State.inReset, hpow]
  have free : ¬ State.inReset { s with rst := { s.rst with powerOn := false } } = true := by simp [State.inReset, hpin]
  exact (if_pos held).trans (if_neg free)

/-- The pin is released, and the power-on trigger does not hold the part. -/
theorem exec_pinEnd_last {s : State} (hpow : s.rst.powerOn = false) (hpin : s.rst.pin = true) :
    exec (.resetTriggerEnd .pin) s = .next (fullReset (if s.rst.sawPowerOn then .powerOn else .pin) s) := by
  have held : s.inReset = true := by simp [State.inReset, hpin]
  have free : ¬ State.inReset { s with rst := { s.rst with pin := false } } = true := by simp [State.inReset, hpow]
  exact (if_pos held).trans (if_neg free)

theorem exec_partResetFull {s : State} {dst : Byte} (h : Takes s dst) (tag : Byte) :
    exec (.partResetFull dst tag) s = .next (fullReset .message s) := by
  show live s (deliver dst tag 20#8 false msgResetFull) = _
  rw [live_next h.1, deliver_takes h]
  rfl

/-- Settles O52: all three commands come to `fullReset`, which is read off block by block. -/
theorem Proofs.fullResetTaken : Obligations.FullResetTaken := by
  intro s cause straps taken
  have leaves : ∀ c : Instr, exec c s = .next (fullReset cause s) → taken c := fun c hc =>
    ⟨_, hc, rfl, rfl, bay_fullReset cause s, fullReset_bayCfg cause s, rfl, rfl, rfl, rfl, rfl, rfl,
      fullReset_channel cause s, rfl, temp_fullReset cause s, rfl, rfl, rfl, rfl, rfl, rfl, rfl, rfl, rfl, rfl, rfl, rfl,
      rfl, rfl, reset_pwm, rfl⟩
  refine ⟨fun hpow hpin hc => leaves _ ?_, fun hpow hpin hc => leaves _ ?_, fun dst tag ht hc => leaves _ ?_⟩
  · rw [hc]
    exact exec_powerOnEnd_last hpow hpin
  · rw [hc]
    exact exec_pinEnd_last hpow hpin
  · rw [hc]
    exact exec_partResetFull ht tag

end Sys2Proof.Machine
end

section
/-! PROOFS. Numbers that name nothing (R3, R169), and the order of an admission attempt (R59, R61). -/

namespace Sys2Proof.Machine

open Sys2Proof.Safety

/-! ### Numbers that name nothing -/

theorem namedBay_absent {s : State} {n : Byte} (h : s.rst.straps.bayCount ≤ n.toNat) : namedBay s n = none := by
  unfold namedBay
  split
  · have absent : s.populated ⟨n.toNat, by assumption⟩ = false := by
      simp only [State.populated, decide_eq_false_iff_not]
      omega
    rw [absent]
    rfl
  · rfl

theorem onNamedBay_absent {s : State} {n : Byte} (h : s.rst.straps.bayCount ≤ n.toNat) (k : BayIx → Answer) :
    onNamedBay n s k = refuse .badArgument s := by
  simp only [onNamedBay, namedBay_absent h]

theorem msgPowerRead_beyond {page : Byte} (h : 2 ≤ page.toNat) (s : State) :
    msgPowerRead page s = refuse .badArgument s := by
  unfold msgPowerRead
  split
  · omega
  · omega
  · rfl

theorem decodeZone_beyond {n : Nat} (h : 4 ≤ n) : decodeZone n = none := dif_neg (by omega)

/-- Settles O4: an absent bay's line is not looked at, and each message's own check of the number refuses it. -/
theorem absentNumbersRefused : Obligations.AbsentNumbersRefused := by
  refine ⟨fun c s b hline hb => ?_, fun s dst tag n cls ht => ?_⟩
  · obtain ⟨k, hk⟩ := exec_of_bayLine hline
    rw [hk]
    exact onBay_absent hb k
  · have refused : ∀ (run : State → Answer) (kind : Byte), run s = refuse .badArgument s →
        live s (deliver dst tag kind false run) = .next (answered s kind tag .badArgument []) :=
      fun run kind h => message_answered ht h tag kind false
    refine ⟨fun h => ?_, fun h => ?_, fun h => ?_, fun h => ?_, fun h => ?_, fun h => ⟨?_, ?_⟩⟩
    · exact ⟨refused _ _ (onNamedBay_absent h _), refused _ _ (onNamedBay_absent h _), refused _ _ (onNamedBay_absent h _),
        refused _ _ (onNamedBay_absent h _), refused _ _ (onNamedBay_absent h _), refused _ _ (onNamedBay_absent h _),
        refused _ _ (onNamedBay_absent h _), refused _ _ (onNamedBay_absent h _), refused _ _ (onNamedBay_absent h _)⟩
    · exact refused _ _ (msgPowerRead_beyond h s)
    · exact refused _ _ (if_pos (by omega))
    · exact refused _ _ (dif_neg (by omega))
    · exact refused _ _ (dif_neg (by omega))
    · exact refused (msgZoneRead n) _ (by rw [msgZoneRead, decodeZone_beyond h])
    · exact refused (msgCurveActivate n) _ (by rw [msgCurveActivate, decodeZone_beyond h])

/-! ### The order of an attempt -/

/-- Every bay of the list is QUEUED with a drive class. -/
def Waiting (s : State) (l : List BayIx) : Prop :=
  ∀ b ∈ l, (s.bay b).state = .queued ∧ ∃ k, (s.bay b).cls = .cls k

theorem walk_bay {s : State} {b : BayIx} (h : (s.bay b).state ≠ .queued) (q : List BayIx) : (walk q s).bay b = s.bay b := by
  rcases (walk_onlyAdmits q s).bay b with hb | ⟨hq, _⟩
  · exact hb
  · exact absurd hq h

theorem Waiting.admitBay {s : State} {l : List BayIx} {c : BayIx} (h : Waiting s l) (hc : c ∉ l) (k : DriveClass) :
    Waiting (admitBay c k s) l := fun b hb => by
  have hne : b ≠ c := fun e => hc (e ▸ hb)
  rw [admitBay_bay_other k s hne]
  exact h b hb

/-- A walk that admits a bay has passed over the held bays ahead of it and admitted the others (R59). -/
theorem walk_ahead {ahead behind : List BayIx} {b : BayIx} (s : State) (hn : (ahead ++ b :: behind).Nodup)
    (hw : Waiting s (ahead ++ b :: behind)) (hb : ((walk (ahead ++ b :: behind) s).bay b).state = .surge) :
    ∀ c ∈ ahead, s.zoneHeld c = true ∨ ((walk (ahead ++ b :: behind) s).bay c).state = .surge := by
  induction ahead generalizing s with
  | nil => simp
  | cons d ahead ih =>
    rw [List.cons_append] at hn hw hb ⊢
    obtain ⟨hd, hn⟩ := List.nodup_cons.mp hn
    have hrest : Waiting s (ahead ++ b :: behind) := fun c hc => hw c (List.mem_cons_of_mem _ hc)
    have still : (s.bay b).state ≠ .surge := by simp [(hrest b (by simp)).1]
    obtain ⟨hq, k, hk⟩ := hw d List.mem_cons_self
    have hclass : s.classOf d = some (s.driveClass k) := by simp [State.classOf, hk]
    unfold walk at hb ⊢
    rw [hclass] at hb ⊢
    simp only [hq] at hb ⊢
    split at hb
    · next hz =>
      rw [if_pos hz]
      intro c hc
      rcases List.mem_cons.mp hc with rfl | hc
      · exact .inl hz
      · exact ih s hn hrest hb c hc
    · next hz =>
      split at hb
      · exact absurd hb still
      · next ho =>
        split at hb
        · next hne => exact absurd rfl hne
        · split at hb
          · exact absurd hb still
          · next hl =>
            split at hb
            · exact absurd hb still
            · next hh =>
              rw [if_neg hz, if_neg ho, if_neg (by simp), if_neg hl, if_neg hh]
              intro c hc
              rcases List.mem_cons.mp hc with rfl | hc
              · right
                rw [walk_bay (by simp [admitted])]
                simp [admitted]
              · exact ih _ hn (hrest.admitBay hd _) hb c hc

theorem waiting_of_queueMatches {s : State} (h : QueueMatches s) (hm : BaysMatch s) : Waiting s s.sched.queue := fun b hb => by
  have hq := (h.2 b).mp hb
  obtain ⟨-, -, -, -, -, -, -, -, -, hcls, -⟩ := hm b
  obtain ⟨h1, h2⟩ := hcls (.inl hq)
  refine ⟨hq, ?_⟩
  cases hk : (s.bay b).cls with
  | cls k => exact ⟨k, rfl⟩
  | blank => exact absurd hk h2
  | unresolved => exact absurd hk h1

theorem attempt_allHeld {s : State} (h : ∀ b ∈ s.sched.queue, s.zoneHeld b = true) : attempt s = s := by
  have e := walk_held h []
  rw [List.append_nil] at e
  exact e

section FirstUnheld

variable {s : State} {ahead behind : List BayIx} {b : BayIx} {k : ClassIx}
  (hs : s.sched.queue = ahead ++ b :: behind) (hheld : ∀ c ∈ ahead, s.zoneHeld c = true)

include hs hheld

/-- The admission taken out of the attempt: what is left is an attempt again. -/
theorem walk_behind (hn : s.sched.queue.Nodup) :
    walk behind (admitBay b (s.driveClass k) s) = attempt (admitBay b (s.driveClass k) s) ∧
      (admitBay b (s.driveClass k) s).sched.queue = ahead ++ behind := by
  have queue : (admitBay b (s.driveClass k) s).sched.queue = ahead ++ behind := by
    show s.sched.queue.filter (· ≠ b) = _
    rw [hs] at hn ⊢
    rw [List.nodup_append] at hn
    obtain ⟨-, hbehind, hapart⟩ := hn
    have h1 : ahead.filter (· ≠ b) = ahead :=
      List.filter_eq_self.mpr fun c hc => by simpa using hapart c hc b (by simp)
    have h2 : behind.filter (· ≠ b) = behind :=
      List.filter_eq_self.mpr fun c hc => by
        have : c ≠ b := fun e => (List.nodup_cons.mp hbehind).1 (e ▸ hc)
        simpa using this
    rw [List.filter_append, List.filter_cons, h1, h2]
    simp
  refine ⟨?_, queue⟩
  rw [attempt, queue, walk_held]
  exact hheld

variable (hfree : s.zoneHeld b = false) (hcls : (s.bay b).cls = .cls k) (hq : (s.bay b).state = .queued)

include hfree hcls hq

/-- What an attempt looks at for the first bay of the queue that is not held (R59). -/
theorem attempt_first :
    attempt s =
      if s.acct.overdraw = false ∧ ((s.driveClass k).staged = false ∨ s.sched.admissions < s.sched.pace.limit) ∧
          ((s.driveClass k).surge : Int) ≤ s.headroom then
        walk behind (admitBay b (s.driveClass k) s)
      else s := by
  have hclass : s.classOf b = some (s.driveClass k) := by simp [State.classOf, hcls]
  rw [attempt, hs, walk_held hheld, walk, hclass]
  simp only [hfree, hq, Bool.false_eq_true, if_false, ne_eq, not_true_eq_false]
  cases ho : s.acct.overdraw with
  | true => simp
  | false =>
    simp only [Bool.false_eq_true, if_false, true_and, Bool.and_eq_true, decide_eq_true_eq]
    by_cases hl : (s.driveClass k).staged = true ∧ s.sched.pace.limit ≤ s.sched.admissions
    · rw [if_pos hl, if_neg]
      rintro ⟨h | h, -⟩
      · simp [h] at hl
      · omega
    · rw [if_neg hl]
      have hl' : (s.driveClass k).staged = false ∨ s.sched.admissions < s.sched.pace.limit := by
        cases hst : (s.driveClass k).staged with
        | false => exact .inl rfl
        | true => exact .inr (by simpa [hst] using hl)
      by_cases hh : s.headroom < (s.driveClass k).surge
      · rw [if_pos hh, if_neg]
        rintro ⟨-, h⟩
        omega
      · rw [if_neg hh, if_pos ⟨hl', by omega⟩]

end FirstUnheld

/-- Settles O15: what stands ahead of an admitted bay, the first bay that is not held, and none that is not held. -/
theorem attemptInQueueOrder : Obligations.AttemptInQueueOrder := by
  refine ⟨fun s ahead behind b hqm hm hs hb => ?_, fun s ahead behind b k hqm hs hheld hfree hcls => ?_,
    fun s h => attempt_allHeld h⟩
  · have hn := hqm.1
    have hw := waiting_of_queueMatches hqm hm
    rw [attempt, hs] at hb
    rw [hs] at hn hw
    rw [attempt, hs]
    exact walk_ahead s hn hw hb
  · intro c fits x
    have hq : (s.bay b).state = .queued := (hqm.2 b).mp (by simp [hs])
    have first := attempt_first hs hheld hfree hcls hq
    obtain ⟨hwalk, hqueue⟩ := walk_behind (k := k) hs hheld hqm.1
    refine ⟨fun hfits => ?_, fun hfits => by rw [first, if_neg hfits]⟩
    have taken : admitBay b c s =
        { s.setBay b x with
          sched :=
            { s.sched with
              queue := ahead ++ behind
              admissions := if c.staged then s.sched.admissions + 1 else s.sched.admissions } } := by
      rw [← hqueue]
      rfl
    rw [first, if_pos hfits, hwalk]
    refine ⟨congrArg attempt taken, ?_⟩
    rw [attempt_bay (by simp [admitted])]
    exact admitBay_bay_same ..

end Sys2Proof.Machine
end

section
/-! PROOFS. The messages over a window of bays (R34, R144, R170). -/

namespace Sys2Proof.Machine

open Sys2Proof.Safety

/-! ### A sweep over a window -/

/-- A sweep that replaces one field of each bay of a list by what f makes of it. -/
theorem foldl_replace {α : Type} {get : State → BayIx → α} {put : State → BayIx → α → State}
    (h : ∀ s b c x, get (put s b x) c = if c = b then x else get s c) (f : α → α) {l : List BayIx} (hn : l.Nodup)
    (s : State) (b : BayIx) :
    get (l.foldl (fun s b => put s b (f (get s b))) s) b = if b ∈ l then f (get s b) else get s b := by
  induction l generalizing s with
  | nil => simp
  | cons c l ih =>
    obtain ⟨hc, hn⟩ := List.nodup_cons.mp hn
    rw [List.foldl_cons, ih hn, h]
    by_cases hb : b = c
    · subst hb
      simp [hc]
    · simp [hb]

/-- A sweep keeps what each of its calls leaves alone. -/
theorem foldl_related {R : State → State → Prop} {k : State → BayIx → State} (refl : ∀ s, R s s)
    (trans : ∀ s t u, R s t → R t u → R s u) (h : ∀ s b, R s (k s b)) (l : List BayIx) (s : State) :
    R s (l.foldl k s) := by
  induction l generalizing s with
  | nil => exact refl s
  | cons b l ih => exact trans _ _ _ (h s b) (ih _)

/-- The bays of a window that is not refused (R34). -/
def inWindow (s : State) (start stop : Byte) : List BayIx :=
  allBays.filter fun b => decide (start.toNat ≤ b.val) && decide (b.val ≤ stop.toNat) && s.populated b

theorem mem_inWindow {s : State} {start stop : Byte} {b : BayIx} :
    b ∈ inWindow s start stop ↔ start.toNat ≤ b.val ∧ b.val ≤ stop.toNat ∧ s.populated b = true := by
  simp [inWindow, mem_allBays, and_assoc]

theorem inWindow_nodup (s : State) (start stop : Byte) : (inWindow s start stop).Nodup := allBays_nodup.filter _

section Window

variable {s : State} {start stop : Byte} (k : State → BayIx → State)

theorem onWindow_good (h : start.toNat ≤ stop.toNat ∧ start.toNat < s.rst.straps.bayCount) :
    onWindow start stop s k = accept ((inWindow s start stop).foldl k s) := by
  have hg : ¬(stop.toNat < start.toNat ∨ s.rst.straps.bayCount ≤ start.toNat) := by omega
  simp only [onWindow, bayWindow, if_neg hg, inWindow]

theorem onWindow_bad (h : ¬(start.toNat ≤ stop.toNat ∧ start.toNat < s.rst.straps.bayCount)) :
    onWindow start stop s k = refuse .badArgument s := by
  have hg : stop.toNat < start.toNat ∨ s.rst.straps.bayCount ≤ start.toNat := by omega
  simp only [onWindow, bayWindow, if_pos hg]

end Window

/-- A message that acts when broadcast, sent to the part or to all. -/
theorem message_to_part_or_all {s : State} {dst : Byte} (hr : s.inReset = false)
    (hp : s.loop.position.isSome = true) (hd : dst = 15#8 ∨ Takes s dst) {run : State → Answer} {u : State} {r : Result}
    (ha : run s = ⟨u, r, [], false⟩) (tag kind : Byte) :
    live s (deliver dst tag kind true run) = .next (if dst = 15#8 then u else answered u kind tag r []) := by
  by_cases hb : dst = 15#8
  · rw [live_next hr, if_pos hb, hb, deliver_broadcast hp, ha]
    rfl
  · rw [if_neg hb]
    exact message_answered (hd.resolve_left hb) ha tag kind true

theorem decodeAttn_encodeAttn (k : AttnSet) : decodeAttn (encodeAttn k).toNat = some k := by
  obtain ⟨a, b, c, d, e⟩ := k
  revert a b c d e
  decide

theorem decodeAttn_beyond {n : Nat} (h : 32 ≤ n) : decodeAttn n = none := if_neg (by omega)

theorem msgIndicatorHold_code (start stop : Byte) (k : Fin 32) :
    msgIndicatorHold start stop (b8 k.val) = msgHold start stop (some k) := by
  have hv : (b8 k.val).toNat = k.val := toNat_b8 (by omega)
  have h255 : b8 k.val ≠ 255#8 := fun e => by
    have := congrArg BitVec.toNat e
    rw [hv] at this
    have := k.isLt
    simp at *
    omega
  funext s
  simp [msgIndicatorHold, h255, hv]

theorem State.bay_setBay (s : State) (b c : BayIx) (x : Bay) :
    (s.setBay b x).bay c = if c = b then x else s.bay c := by
  split
  · subst c
    simp
  · simp [*]

theorem State.bayLights_changed (s : State) (b c : BayIx) (x : BayLights) :
    (s.setBayLights b x).bayLights c = if c = b then x else s.bayLights c := by
  split
  · subst c
    simp
  · simp [*]

section Refused

variable {s : State} {start stop : Byte} (h : ¬(start.toNat ≤ stop.toNat ∧ start.toNat < s.rst.straps.bayCount))

include h

theorem msgAttentionClear_bad (kinds : Byte) : msgAttentionClear start stop kinds s = refuse .badArgument s := by
  unfold msgAttentionClear
  split
  · rfl
  · exact onWindow_bad _ h

theorem msgAttentionMask_bad (x y : Byte) : msgAttentionMask start stop x y s = refuse .badArgument s := by
  unfold msgAttentionMask
  split
  · exact onWindow_bad _ h
  · rfl

theorem msgHold_bad (k : Option (Fin 32)) : msgHold start stop k s = refuse .badArgument s := onWindow_bad _ h

theorem msgIndicatorHold_bad (code : Byte) : msgIndicatorHold start stop code s = refuse .badArgument s := by
  unfold msgIndicatorHold
  split
  · exact msgHold_bad h _
  · split
    · exact msgHold_bad h _
    · rfl

end Refused

/-- Settles O41. -/
theorem windowMessagesComplete : Obligations.WindowMessagesComplete := by
  intro s dst tag start stop hr hp hd
  have told : ∀ {run : State → Answer} {u : State} {r : Result}, run s = ⟨u, r, [], false⟩ → ∀ kind,
      live s (deliver dst tag kind true run) = .next (if dst = 15#8 then u else answered u kind tag r []) :=
    fun ha kind => message_to_part_or_all hr hp hd ha tag kind
  have nodup := inWindow_nodup s start stop
  refine ⟨fun kinds hg => ?_, fun add del hg => ?_, fun c h hg hc => ?_, fun kinds setMask clearMask code hg => ?_,
    fun kinds other code hk hcode h255 => ?_⟩
  · have rest := foldl_related (R := fun s t => t = { s with sup := { s.sup with bays := t.sup.bays } })
      (fun _ => rfl) (fun _ _ _ h k => by rw [k, h])
      (fun s b => (rfl : s.setBay b { s.bay b with attn := (s.bay b).attn.diff kinds } = _)) (inWindow s start stop) s
    have own := foldl_replace State.bay_setBay (fun x : Bay => { x with attn := x.attn.diff kinds }) nodup s
    refine ⟨_, told ?_ 6#8, rest, fun b => ⟨fun hb => ?_, fun hb => ?_⟩⟩
    · rw [msgAttentionClear, decodeAttn_encodeAttn]
      exact onWindow_good _ hg
    · exact (own b).trans (if_pos (mem_inWindow.mpr hb))
    · exact (own b).trans (if_neg fun hm => hb (mem_inWindow.mp hm))
  · have rest := foldl_related (R := fun s t => t = { s with sup := { s.sup with cfg := t.sup.cfg } })
      (fun _ => rfl) (fun _ _ _ h k => by rw [k, h])
      (fun s b => (rfl :
        s.setBayCfg b { s.bayCfg b with mask := ((s.bayCfg b).mask.union add).diff del } = _)) (inWindow s start stop) s
    have own := foldl_replace State.bayCfg_changed (fun x : BayCfg => { x with mask := (x.mask.union add).diff del }) nodup s
    refine ⟨_, told ?_ 7#8, rest, fun b => ⟨fun hb => ?_, fun hb => ?_⟩⟩
    · rw [msgAttentionMask, decodeAttn_encodeAttn, decodeAttn_encodeAttn]
      exact onWindow_good _ hg
    · exact (own b).trans (if_pos (mem_inWindow.mpr hb))
    · exact (own b).trans (if_neg fun hm => hb (mem_inWindow.mp hm))
  · have rest := foldl_related (R := fun s t => t = { s with ind := { s.ind with bays := t.ind.bays } })
      (fun _ => rfl) (fun _ _ _ h k => by rw [k, h])
      (fun s b => (rfl : s.setBayLights b { s.bayLights b with hold := h } = _)) (inWindow s start stop) s
    have own := foldl_replace State.bayLights_changed (fun x : BayLights => { x with hold := h }) nodup s
    have holds : msgHold start stop h s = ⟨_, .ok, [], false⟩ := onWindow_good _ hg
    refine ⟨_, ?_, rest, fun b => ⟨fun hb => ?_, fun hb => ?_⟩⟩
    · cases h with
      | none =>
        rw [hc]
        exact told holds 8#8
      | some k =>
        rw [hc]
        exact told ((congrFun (msgIndicatorHold_code start stop k) s).trans holds) 8#8
    · exact (own b).trans (if_pos (mem_inWindow.mpr hb))
    · exact (own b).trans (if_neg fun hm => hb (mem_inWindow.mp hm))
  · exact ⟨told (msgAttentionClear_bad hg kinds) 6#8, told (msgAttentionMask_bad hg setMask clearMask) 7#8,
      told (msgIndicatorHold_bad hg code) 8#8, told (msgHold_bad hg none) 8#8⟩
  · have unknown := decodeAttn_beyond hk
    have hn : ¬ code.toNat < 32 := by omega
    refine ⟨told ?_ 6#8, told ?_ 7#8, told ?_ 7#8, told ?_ 8#8⟩
    · rw [msgAttentionClear, unknown]
      rfl
    · rw [msgAttentionMask, unknown]
      rfl
    · rw [msgAttentionMask, unknown]
      cases decodeAttn other.toNat <;> rfl
    · rw [msgIndicatorHold, if_neg h255, dif_neg hn]
      rfl

/-! ### Drive temperatures (R22, R96 to R98) -/

/-- The record after a store: TEMPERATURE is raised where the hot side changes (R97). -/
def reported (x : Bay) (hot was : Bool) : Bay :=
  if hot = was then x else { x with attn := { x.attn with temperature := true } }

theorem reported_state (x : Bay) (hot was : Bool) : (reported x hot was).state = x.state := by
  unfold reported
  split <;> rfl

/-- The store without the cut (R97). -/
def stored (u : State) (b : BayIx) (value : Int) : State :=
  (u.setBay b (reported (u.bay b) (hotSide u b value) (recordedHot u b))).setTemp b
    (some ⟨value, 0, hotSide u b value, false⟩)

/-- The cut that a store may lead to (R22). -/
def cutOr (b : BayIx) (value : Int) (w : Work) : Work :=
  match w.st.classOf b with
  | some c => if (w.st.bayCfg b).cut && decide (2 * (c.critical : Int) ≤ value) then enterFault b .overtemp w else w
  | none => w

theorem storeReport_stores (u : State) (b : BayIx) (v : Int) :
    storeReport b v (Work.start u) =
      cutOr b (clampInt (-80) 255 v) (Work.start (stored u b (clampInt (-80) 255 v))) := by
  refine congrArg (cutOr b (clampInt (-80) 255 v)) ?_
  unfold stored reported
  by_cases h : hotSide u b (clampInt (-80) 255 v) = recordedHot u b
  · simp [h]
  · simp [h, State.raise, Bay.raise, State.setBay_setTemp]

/-- The value makes the over-temperature cut (R22). -/
def cutsAt (u : State) (b : BayIx) (value : Int) : Bool :=
  match u.classOf b with
  | some c => (u.bayCfg b).cut && decide (2 * (c.critical : Int) ≤ value)
  | none => false

theorem reportTaken_eq (b : BayIx) (v : BitVec 16) (u : State) :
    reportTaken b v u =
      let value := clampInt (-80) 255 v.toInt
      let x := reported (u.bay b) (hotSide u b value) (recordedHot u b)
      if cutsAt u b value then (u.setBay b (faulted .overtemp (unpowered u.sup.drainSetting x))).setTemp b none
      else (u.setBay b x).setTemp b (some ⟨value, 0, hotSide u b value, false⟩) := by
  unfold reportTaken hotSide cutsAt State.classOf
  cases (u.bay b).cls <;> rfl

/-- A powered bay, its record changed, goes to FAULT. -/
theorem enterFault_setTemp {u : State} {b : BayIx} {x : Bay} (hx : x.powered = true) (cause : FaultCause)
    (t : Option TempRec) :
    enterFault b cause (Work.start ((u.setBay b x).setTemp b t)) =
      Work.start ((u.setBay b (faulted cause (unpowered u.sup.drainSetting x))).setTemp b none) := by
  rw [enterFault_powered (by simpa using hx), removePower_start]
  simp only [Work.st_start, Work.start_setBay, State.bay_setTemp, State.bay_setBay_same, State.setBay_setTemp,
    State.setBay_setBay, State.setTemp_setTemp, State.sup_setTemp, State.sup_drainSetting_setBay]
  rfl

theorem reported_cls (x : Bay) (hot was : Bool) : (reported x hot was).cls = x.cls := by
  unfold reported
  split <;> rfl

theorem storeReport_start {u : State} {b : BayIx} (h : (u.bay b).state = .run) (v : BitVec 16) :
    storeReport b v.toInt (Work.start u) = Work.start (reportTaken b v u) := by
  rw [reportTaken_eq, storeReport_stores]
  unfold cutOr cutsAt
  have hclass : (stored u b (clampInt (-80) 255 v.toInt)).classOf b = u.classOf b :=
    State.classOf_congr rfl (by simp [stored, reported_cls])
  rw [Work.st_start, hclass]
  have powered := (Bay.powered_iff _).mpr
    (.inr ((reported_state (u.bay b) (hotSide u b (clampInt (-80) 255 v.toInt)) (recordedHot u b)).trans h))
  cases u.classOf b with
  | some c =>
    dsimp only
    rw [stored, enterFault_setTemp powered]
    split
    · next hc => rw [if_pos (by exact hc)]
    · next hc => rw [if_neg (by exact hc)]
  | none => rfl

/-- A report at position n of a message that found the part in s, taken at u (R96). -/
def reportAt (s : State) (n : Nat) (v : BitVec 16) (u : State) : State :=
  if h : n < 24 then
    if v ≠ noReport ∧ s.populated ⟨n, h⟩ = true ∧ (s.bay ⟨n, h⟩).state = .run then reportTaken ⟨n, h⟩ v u else u
  else u

/-- What a report leaves alone. -/
structure ReportFrame (n : Nat) (u t : State) : Prop where
  rst : t.rst = u.rst
  acct : t.acct = u.acct
  zones : t.cool.zones = u.cool.zones
  bay : ∀ c : BayIx, c.val ≠ n → t.bay c = u.bay c

theorem reportTaken_frame (b : BayIx) (v : BitVec 16) (u : State) : ReportFrame b.val u (reportTaken b v u) := by
  have apart : ∀ c : BayIx, c.val ≠ b.val → c ≠ b := fun c h e => h (congrArg _ e)
  rw [reportTaken_eq]
  dsimp only
  split
  · exact ⟨rfl, rfl, rfl, fun c hc => State.bay_setBay_other _ _ (apart c hc)⟩
  · exact ⟨rfl, rfl, rfl, fun c hc => State.bay_setBay_other _ _ (apart c hc)⟩

theorem reportAt_frame (s : State) (n : Nat) (v : BitVec 16) (u : State) : ReportFrame n u (reportAt s n v u) := by
  unfold reportAt
  split
  · next h =>
    split
    · exact reportTaken_frame ⟨n, h⟩ v u
    · exact ⟨rfl, rfl, rfl, fun _ _ => rfl⟩
  · exact ⟨rfl, rfl, rfl, fun _ _ => rfl⟩

theorem takeReport_start {s u : State} {n : Nat} (hr : u.rst = s.rst)
    (hb : ∀ h : n < 24, (u.bay ⟨n, h⟩).state = (s.bay ⟨n, h⟩).state) (v : BitVec 16) :
    takeReport n v (Work.start u) = Work.start (reportAt s n v u) := by
  have hp : ∀ b, u.populated b = s.populated b := fun b => by simp only [State.populated, hr]
  unfold takeReport reportAt
  by_cases hv : v = noReport
  · simp [hv]
  · rw [if_neg hv]
    split
    · next h =>
      rw [Work.st_start, hp, hb h]
      by_cases hc : s.populated ⟨n, h⟩ = true ∧ (s.bay ⟨n, h⟩).state = .run
      · rw [if_pos (by simpa using hc), if_pos ⟨hv, hc⟩]
        exact storeReport_start ((hb h).trans hc.2) v
      · rw [if_neg (by simpa using hc), if_neg fun h => hc h.2]
    · rfl

/-- The three reports of one message, each for its own bay, and the attempt that a cut makes. -/
theorem event_takeReports (s : State) (n : Nat) (v0 v1 v2 : BitVec 16) :
    event (fun w => takeReport (n + 2) v2 (takeReport (n + 1) v1 (takeReport n v0 w))) s =
      settled s (reportAt s (n + 2) v2 (reportAt s (n + 1) v1 (reportAt s n v0 s))) := by
  have f0 := reportAt_frame s n v0 s
  have f1 := reportAt_frame s (n + 1) v1 (reportAt s n v0 s)
  have f2 := reportAt_frame s (n + 2) v2 (reportAt s (n + 1) v1 (reportAt s n v0 s))
  have b1 : ∀ h : n + 1 < 24, ((reportAt s n v0 s).bay ⟨n + 1, h⟩).state = (s.bay ⟨n + 1, h⟩).state := fun h => by
    rw [f0.bay ⟨n + 1, h⟩ (by simp)]
  have b2 : ∀ h : n + 2 < 24,
      ((reportAt s (n + 1) v1 (reportAt s n v0 s)).bay ⟨n + 2, h⟩).state = (s.bay ⟨n + 2, h⟩).state := fun h => by
    rw [f1.bay ⟨n + 2, h⟩ (by simp), f0.bay ⟨n + 2, h⟩ (by simp)]
  rw [event, takeReport_start rfl (fun _ => rfl) v0, takeReport_start f0.rst b1 v1,
    takeReport_start (f1.rst.trans f0.rst) b2 v2]
  exact Work.finish_start ((f2.acct.trans f1.acct).trans f0.acct) ((f2.zones.trans f1.zones).trans f0.zones)

theorem positionResult_eq (s : State) (n : Nat) (v : BitVec 16) :
    positionResult s n v =
      if v = noReport then 255#8
      else if h : n < 24 then
        (if s.populated ⟨n, h⟩ = false then 3#8
        else if (s.bay ⟨n, h⟩).state ≠ .run then 6#8
        else if max (-80) (min 255 v.toInt) = v.toInt then 0#8
        else 1#8)
      else 3#8 := by
  unfold positionResult
  split
  · rfl
  · split
    · next h =>
      cases s.populated ⟨n, h⟩ with
      | false => rfl
      | true =>
        by_cases hr : (s.bay ⟨n, h⟩).state = .run
        · rw [if_pos rfl, if_pos hr, if_neg (c := true = false) (by simp), if_neg (not_not.mpr hr)]
          rfl
        · rw [if_pos rfl, if_neg hr, if_neg (c := true = false) (by simp), if_pos hr]
          rfl
    · rfl

theorem namedBay_of_lt {s : State} {n : Byte} (h : n.toNat < min 24 s.rst.straps.bayCount) :
    namedBay s n = some ⟨n.toNat, by omega⟩ := by
  have hp : s.populated ⟨n.toNat, by omega⟩ = true := by
    simp only [State.populated, decide_eq_true_eq]
    omega
  rw [namedBay, dif_pos (by omega), if_pos hp]

theorem namedBay_of_ge {s : State} {n : Byte} (h : min 24 s.rst.straps.bayCount ≤ n.toNat) : namedBay s n = none := by
  by_cases hn : n.toNat < 24
  · exact namedBay_absent (by omega)
  · exact dif_neg hn

/-- Settles O42. -/
theorem driveTemperatureCompletes : Obligations.DriveTemperatureCompletes := by
  intro s dst tag first v0 v1 v2 ht takes result
  refine ⟨fun h => ?_, fun h => ?_⟩
  · refine message_answered ht ?_ tag 10#8 false
    rw [msgDriveTemperature, onNamedBay, namedBay_of_lt h]
    dsimp only
    rw [event_takeReports, positionResult_eq, positionResult_eq, positionResult_eq]
    rfl
  · refine message_answered ht ?_ tag 10#8 false
    rw [msgDriveTemperature, onNamedBay, namedBay_of_ge h]
    rfl

end Sys2Proof.Machine
end

section
/-! PROOFS. What an accepted TABLE PUT stores, table by table (R178). -/

namespace Sys2Proof.Machine

open Sys2Proof.Safety

/-! ### A TABLE PUT by what its entry comes to -/

section TablePut

variable {s : State} {dst index : Byte} {entry : List Byte} {w : Window}
  (ht : Takes s dst) (hw : s.window = some w) (hi : index.toNat = w.pointer)

include ht hw hi

theorem tablePut_refuses {r : Result} (hput : putEntry w.table w.pointer entry s = .refuse r) (tag : Byte) :
    exec (.tablePut dst tag index entry) s = .next (answered s 12#8 tag r
      [b8 w.table, b8 w.start, b8 w.stop, b8 w.pointer, index]) := by
  refine message_answered ht ?_ tag 12#8 false
  simp [msgTablePut, hw, hi, hput, windowBytes]

theorem tablePut_stores {clamped : Bool} {f : Work → Work} {u : State} {r : Result}
    (hput : putEntry w.table w.pointer entry s = .store clamped f) (hu : event f s = u)
    (hr : (if clamped then .okClamped else .ok) = r) (tag : Byte) :
    exec (.tablePut dst tag index entry) s = .next (answered { u with window := some w.advance } 12#8 tag r
      [b8 w.table, b8 w.start, b8 w.stop, b8 w.advance.pointer, index]) := by
  refine message_answered ht ?_ tag 12#8 false
  subst hu hr
  simp [msgTablePut, hw, hi, hput, windowBytes, Window.advance]

end TablePut

/-- The result of a store by whether its numbers were in range. -/
theorem result_of_clamped {clamped : Bool} {p : Prop} [Decidable p] (h : clamped = true ↔ ¬p) :
    (if clamped then Result.okClamped else .ok) = if p then .ok else .okClamped := by
  by_cases hp : p
  · have : clamped = false := by simpa [hp] using h
    simp [this, hp]
  · have : clamped = true := by simpa [hp] using h
    simp [this, hp]

/-- A change that moves neither the committed draw nor the account nor the zones is the whole event. -/
theorem event_map {g : State → State} {s : State} (hd : (g s).committed = s.committed) (ha : (g s).acct = s.acct)
    (hz : (g s).cool.zones = s.cool.zones) : event (·.map g) s = g s :=
  Work.finish_start_alike hd ha hz

theorem event_map_owe (g : State → State) (s : State) : event (fun w => (w.map g).owe) s = attempt (g s) :=
  Work.finish_owe ..

theorem State.committed_same {s t : State} (hc : t.sched.classes = s.sched.classes) (hb : t.sup.bays = s.sup.bays) :
    t.committed = s.committed :=
  State.committed_congr fun b => State.draw_congr hc (by simp only [State.bay, hb]) (by simp only [State.bay, hb])

/-! ### The fields of entries -/

theorem decodeFlag_eq {n : Nat} (h : n < 2) : decodeFlag n = some (decide (n = 1)) := by
  have : n = 0 ∨ n = 1 := by omega
  rcases this with rfl | rfl <;> rfl

theorem decodeFlag_beyond {n : Nat} (h : 2 ≤ n) : decodeFlag n = none := by
  unfold decodeFlag
  rw [if_neg (by omega), if_neg (by omega)]

/-- The pattern a code names, PASS past the last. -/
def patternOf (n : Nat) : Pattern :=
  [Pattern.pass, .off, .on, .slow, .fast, .wink, .breathe, .activity].getD n .pass

theorem decodePattern_eq {n : Nat} (h : n < 8) : decodePattern n = some (patternOf n) := by
  interval_cases n <;> rfl

theorem decodePattern_beyond {n : Nat} (h : 8 ≤ n) : decodePattern n = none :=
  match n, h with
  | _ + 8, _ => rfl

theorem decodePatterns_eq {x y : Nat} (h : x / 16 < 8 ∧ x % 16 < 8 ∧ y / 16 < 8) :
    decodePatterns x y = some ⟨patternOf (x / 16), patternOf (x % 16), patternOf (y / 16)⟩ := by
  simp only [decodePatterns, decodePattern_eq h.1, decodePattern_eq h.2.1, decodePattern_eq h.2.2]

theorem decodePatterns_beyond {x y : Nat} (h : ¬(x / 16 < 8 ∧ x % 16 < 8 ∧ y / 16 < 8)) : decodePatterns x y = none := by
  unfold decodePatterns
  by_cases h1 : x / 16 < 8
  · by_cases h2 : x % 16 < 8
    · rw [decodePattern_beyond (n := y / 16) (by omega)]
      cases decodePattern (x / 16) <;> cases decodePattern (x % 16) <;> rfl
    · rw [decodePattern_beyond (n := x % 16) (by omega)]
      cases decodePattern (x / 16) <;> rfl
  · rw [decodePattern_beyond (n := x / 16) (by omega)]

/-- The conditions whose bits a number sets (R193). -/
def condsOf (n : Nat) : List Cond := (allConds.zipIdx.filter fun p => n.testBit p.2).map (·.1)

theorem allConds_zipIdx : allConds.zipIdx = allConds.map fun c => (c, c.bit) := by decide

theorem decodeConds_eq {n : Nat} (h : n < 32768) : decodeConds n = some (condsOf n) := by
  rw [decodeConds, if_pos h, condsOf, allConds_zipIdx, List.filter_map, List.map_map]
  simp [Function.comp_def]

theorem decodeConds_beyond {n : Nat} (h : ¬ n < 32768) : decodeConds n = none := if_neg h

theorem decodeRule_eq {e : List Byte}
    (h : wordAt e 0 < 32768 ∧ wordAt e 2 < 32768 ∧
      (byteAt e 4 / 16 < 8 ∧ byteAt e 4 % 16 < 8 ∧ byteAt e 5 / 16 < 8)) :
    decodeRule e = some
      ⟨condsOf (wordAt e 0), condsOf (wordAt e 2), decide (byteAt e 5 % 2 = 1),
        ⟨patternOf (byteAt e 4 / 16), patternOf (byteAt e 4 % 16), patternOf (byteAt e 5 / 16)⟩⟩ := by
  simp only [decodeRule, decodeConds_eq h.1, decodeConds_eq h.2.1, decodePatterns_eq h.2.2, Nat.testBit_zero]

theorem decodeRule_beyond {e : List Byte}
    (h : ¬(wordAt e 0 < 32768 ∧ wordAt e 2 < 32768 ∧
      (byteAt e 4 / 16 < 8 ∧ byteAt e 4 % 16 < 8 ∧ byteAt e 5 / 16 < 8))) : decodeRule e = none := by
  unfold decodeRule
  by_cases h0 : wordAt e 0 < 32768
  · by_cases h2 : wordAt e 2 < 32768
    · rw [decodePatterns_beyond fun h4 => h ⟨h0, h2, h4⟩]
      cases decodeConds (wordAt e 0) <;> cases decodeConds (wordAt e 2) <;> rfl
    · rw [decodeConds_beyond h2]
      cases decodeConds (wordAt e 0) <;> rfl
  · rw [decodeConds_beyond h0]

theorem decodeClass_eq {e : List Byte} (h : byteAt e 7 / 64 < 2) :
    ∃ clamped, decodeClass e = some
        (⟨min 2000 (wordAt e 0), min 2000 (wordAt e 2), max 1 (byteAt e 4), max 1 (byteAt e 5), byteAt e 6,
          decide (byteAt e 7 / 64 = 1), min 3 (byteAt e 7 % 64), min 127 (byteAt e 8), min 127 (byteAt e 9)⟩, clamped) ∧
      (clamped = true ↔ ¬(wordAt e 0 ≤ 2000 ∧ wordAt e 2 ≤ 2000 ∧ 1 ≤ byteAt e 4 ∧ 1 ≤ byteAt e 5 ∧
        byteAt e 7 % 64 ≤ 3 ∧ byteAt e 8 ≤ 127 ∧ byteAt e 9 ≤ 127)) := by
  refine ⟨_, by rw [decodeClass, decodeFlag_eq h], ?_⟩
  simp only [decide_eq_true_eq, ne_eq, DriveClass.mk.injEq, true_and]
  omega

theorem decodeClass_beyond {e : List Byte} (h : 2 ≤ byteAt e 7 / 64) : decodeClass e = none := by
  rw [decodeClass, decodeFlag_beyond h]

theorem clampNat_ne_iff {lo hi : Nat} (h : lo ≤ hi) (n : Nat) : clampNat lo hi n ≠ n ↔ ¬(lo ≤ n ∧ n ≤ hi) := by
  unfold clampNat
  omega

theorem clampInt_ne_iff {lo hi : Int} (h : lo ≤ hi) (n : Int) : clampInt lo hi n ≠ n ↔ ¬(lo ≤ n ∧ n ≤ hi) := by
  unfold clampInt
  omega

theorem fin_ofNat_val {n : Nat} [NeZero n] (i : Fin n) : Fin.ofNat n i.val = i := Fin.ext (Nat.mod_eq_of_lt i.isLt)

/-! ### The records judged again after a changed staleness limit (R99 to R101) -/

/-- The hot side of a value for the class of bay b. -/
theorem hotSide_eq_hotFor (s : State) (b : BayIx) : hotSide s b = hotFor (fun c => (s.driveClass c).warn) (s.bay b) := by
  funext value
  unfold hotSide hotFor State.classOf
  cases (s.bay b).cls <;> rfl

/-- What judging one record again does to its bay. -/
theorem rejudge_eq (b : BayIx) (s : State) :
    rejudge b s =
      (s.setBay b (rejudgedBay (effectiveStaleness s.scan.staleness) (hotSide s b) (s.temp b) (s.bay b))).setTemp b
        ((s.temp b).map (rejudged (effectiveStaleness s.scan.staleness) (hotSide s b))) := by
  unfold rejudge rejudgedBay rejudgeRaises rejudged
  cases ht : s.temp b with
  | none =>
    have keep : s.setTemp b none = s := by rw [← ht, State.setTemp_self]
    simp [keep]
  | some t =>
    have keep : s.setTemp b (some t) = s := by rw [← ht, State.setTemp_self]
    dsimp only [Option.map_some]
    cases hs : t.stale
    · by_cases ha : effectiveStaleness s.scan.staleness ≤ t.age
      · simp [ha, turnStale, ht, State.raise, Bay.raise, State.setBay_setTemp]
      · simp [ha, keep]
    · by_cases ha : t.age < effectiveStaleness s.scan.staleness
      · cases hh : hotSide s b t.value <;>
          simp [ha, hh, revive, ht, State.raise, Bay.raise, State.setBay_setTemp]
      · simp [ha, keep]

/-- The record of bay b judged again in state s, and its bay. -/
def judgedTemp (s : State) (b : BayIx) : Option TempRec :=
  (s.temp b).map (rejudged (effectiveStaleness s.scan.staleness) (hotSide s b))

def judgedBay (s : State) (b : BayIx) : Bay :=
  rejudgedBay (effectiveStaleness s.scan.staleness) (hotSide s b) (s.temp b) (s.bay b)

/-- t is s but for records and temperatures of bays. -/
def OnlyJudged (s t : State) : Prop :=
  t = { s with scan := { s.scan with temps := t.scan.temps }, sup := { s.sup with bays := t.sup.bays } }

theorem rejudge_of_onlyJudged {s t : State} {b : BayIx} (h : OnlyJudged s t) (hb : t.bay b = s.bay b)
    (ht : t.temp b = s.temp b) : rejudge b t = (t.setBay b (judgedBay s b)).setTemp b (judgedTemp s b) := by
  have hhot : hotSide t b = hotSide s b := by
    rw [hotSide_eq_hotFor, hotSide_eq_hotFor, hb, h]
    rfl
  have hstale : t.scan.staleness = s.scan.staleness := by rw [h]
  rw [rejudge_eq, judgedBay, judgedTemp, hb, ht, hhot, hstale]

theorem rejudge_foldl {s : State} {l : List BayIx} (hn : l.Nodup) (t : State) (h : OnlyJudged s t)
    (hl : ∀ b ∈ l, t.bay b = s.bay b ∧ t.temp b = s.temp b) :
    let u := l.foldl (fun s b => rejudge b s) t
    OnlyJudged s u ∧ (∀ b ∈ l, u.bay b = judgedBay s b ∧ u.temp b = judgedTemp s b) ∧
      ∀ b, b ∉ l → u.bay b = t.bay b ∧ u.temp b = t.temp b := by
  induction l generalizing t with
  | nil => exact ⟨h, by simp, fun _ _ => ⟨rfl, rfl⟩⟩
  | cons c l ih =>
    obtain ⟨hc, hn⟩ := List.nodup_cons.mp hn
    obtain ⟨hb, ht⟩ := hl c List.mem_cons_self
    have next : OnlyJudged s ((t.setBay c (judgedBay s c)).setTemp c (judgedTemp s c)) := by
      unfold OnlyJudged at h ⊢
      rw [h]
      rfl
    have other : ∀ b, b ≠ c → ((t.setBay c (judgedBay s c)).setTemp c (judgedTemp s c)).bay b = t.bay b ∧
        ((t.setBay c (judgedBay s c)).setTemp c (judgedTemp s c)).temp b = t.temp b := fun b hbc => by simp [hbc]
    rw [List.foldl_cons, rejudge_of_onlyJudged h hb ht]
    obtain ⟨hu, hin, hout⟩ := ih hn _ next fun b hbl => by
      obtain ⟨o1, o2⟩ := other b fun e => hc (e ▸ hbl)
      obtain ⟨k1, k2⟩ := hl b (List.mem_cons_of_mem _ hbl)
      exact ⟨o1.trans k1, o2.trans k2⟩
    refine ⟨hu, fun b hbl => ?_, fun b hbl => ?_⟩
    · rcases List.mem_cons.mp hbl with rfl | hbl
      · obtain ⟨k1, k2⟩ := hout b hc
        exact ⟨k1.trans (by simp), k2.trans (by simp)⟩
      · exact hin b hbl
    · rw [List.mem_cons, not_or] at hbl
      obtain ⟨k1, k2⟩ := hout b hbl.2
      obtain ⟨o1, o2⟩ := other b hbl.1
      exact ⟨k1.trans o1, k2.trans o2⟩

theorem vector_eq_ofFn {α : Type} {n : Nat} {v : Vector α n} {f : Fin n → α} (h : ∀ i, v.get i = f i) :
    v = Vector.ofFn f :=
  Vector.ext fun i hi => by
    rw [Vector.getElem_ofFn]
    exact h ⟨i, hi⟩

/-- Judging every record again, in any order, judges each by the state before (R99). -/
theorem rejudgeAll_eq (s : State) :
    rejudgeAll s =
      { s with
        scan := { s.scan with temps := Vector.ofFn (judgedTemp s) }
        sup := { s.sup with bays := Vector.ofFn (judgedBay s) } } := by
  have h := rejudge_foldl allBays_nodup s rfl fun _ _ => ⟨rfl, rfl⟩
  rw [rejudgeAll]
  generalize allBays.foldl (fun s b => rejudge b s) s = u at h ⊢
  obtain ⟨hu, hin, -⟩ := h
  have htemps : u.scan.temps = Vector.ofFn (judgedTemp s) := vector_eq_ofFn fun b => (hin b (mem_allBays b)).2
  have hbays : u.sup.bays = Vector.ofFn (judgedBay s) := vector_eq_ofFn fun b => (hin b (mem_allBays b)).1
  rw [← htemps, ← hbays]
  exact hu

theorem judgedBay_alike (s : State) (b : BayIx) :
    (judgedBay s b).state = (s.bay b).state ∧ (judgedBay s b).cls = (s.bay b).cls := by
  unfold judgedBay rejudgedBay
  split
  · split <;> exact ⟨rfl, rfl⟩
  · exact ⟨rfl, rfl⟩

theorem rejudgeAll_committed (s : State) : (rejudgeAll s).committed = s.committed := by
  rw [rejudgeAll_eq]
  refine State.committed_congr fun b => State.draw_congr rfl ?_ ?_
  · simpa [State.bay, Vector.get_eq_getElem] using (judgedBay_alike s b).1
  · simpa [State.bay, Vector.get_eq_getElem] using (judgedBay_alike s b).2

/-! ### The writes of the part settings, table 9 -/

/-- Changes that lower neither the committed draw nor the reserve and clear neither a hold nor the overdraw. -/
theorem Work.finish_start_quiet {s t : State} (hd : t.committed = s.committed)
    (hr : s.acct.fanReserve ≤ t.acct.fanReserve) (ho : t.acct.overdraw = s.acct.overdraw)
    (hh : holdCleared s t = false) : (Work.start t).finish s = t := by
  have quiet : fellOrCleared s t = false := by
    simp [fellOrCleared, hd, ho, hh, hr]
  simp [Work.finish, Work.start, Work.entered_nil, quiet]

/-- The three settings of entry 0 stored. -/
def withPower (c g m : Nat) (s : State) : State :=
  { s with acct := { s.acct with ceiling := c, guardBand := g, margin := m } }

theorem event_writePower (s : State) (c g m : Nat) :
    event (writePower c g m) s =
      if s.acct.ceiling ≠ c ∨ s.acct.guardBand ≠ g then attempt (withPower c g m s) else withPower c g m s := by
  have stay : (Work.start (withPower c g m s)).finish s = withPower c g m s :=
    Work.finish_start_quiet (State.committed_same rfl rfl) (Nat.le_refl _) rfl (holdCleared_of_zones_eq rfl)
  have owed : (Work.start (withPower c g m s)).owe.finish s = attempt (withPower c g m s) := Work.finish_owe ..
  have changed : (decide (s.acct.ceiling ≠ c) || decide (s.acct.guardBand ≠ g)) = true ↔
      s.acct.ceiling ≠ c ∨ s.acct.guardBand ≠ g := by
    simp only [Bool.or_eq_true, decide_eq_true_eq]
  unfold event writePower
  by_cases h : s.acct.ceiling ≠ c ∨ s.acct.guardBand ≠ g
  · rw [if_pos h]
    exact (congrArg (Work.finish s) (if_pos (changed.mpr h))).trans owed
  · rw [if_neg h]
    exact (congrArg (Work.finish s) (if_neg (mt changed.mp h))).trans stay

/-- The settings of entry 4 stored. -/
def withCooling (p up down l : Nat) (s : State) : State :=
  { s with
    cool := { s.cool with period := p, upStep := up, downStep := down }
    scan := { s.scan with staleness := l } }

theorem event_writeCooling (s : State) (p up down l : Nat) :
    event (writeCooling p up down l) s =
      if s.scan.staleness = l then withCooling p up down l s else rejudgeAll (withCooling p up down l s) := by
  have hd : (withCooling p up down l s).committed = s.committed := State.committed_same rfl rfl
  have stay : (Work.start (withCooling p up down l s)).finish s = withCooling p up down l s :=
    Work.finish_start_alike hd rfl rfl
  have judged : (Work.start (rejudgeAll (withCooling p up down l s))).finish s = rejudgeAll (withCooling p up down l s) :=
    Work.finish_start_alike ((rejudgeAll_committed _).trans hd) (by rw [rejudgeAll_eq]; rfl) (by rw [rejudgeAll_eq]; rfl)
  unfold event writeCooling
  by_cases h : s.scan.staleness = l
  · rw [if_pos h]
    exact (congrArg (Work.finish s) (if_neg fun e => absurd h (of_decide_eq_true e))).trans stay
  · rw [if_neg h]
    exact (congrArg (Work.finish s) (if_pos (decide_eq_true h))).trans judged

/-- The records judged again after a write of entry 4, field by field. -/
theorem rejudgeAll_withCooling (p up down l : Nat) (s : State) :
    let hot := fun (b : BayIx) => hotFor (fun c => (s.driveClass c).warn) (s.bay b)
    rejudgeAll (withCooling p up down l s) =
      { withCooling p up down l s with
        scan :=
          { (withCooling p up down l s).scan with
            temps := Vector.ofFn fun b => (s.temp b).map (rejudged (min 65535 (l * 1000)) (hot b)) }
        sup :=
          { s.sup with
            bays := Vector.ofFn fun b => rejudgedBay (min 65535 (l * 1000)) (hot b) (s.temp b) (s.bay b) } } := by
  intro hot
  have hhot : ∀ b, hotSide (withCooling p up down l s) b = hot b := fun b => hotSide_eq_hotFor _ b
  have htemps : judgedTemp (withCooling p up down l s) =
      fun b => (s.temp b).map (rejudged (min 65535 (l * 1000)) (hot b)) := by
    funext b
    rw [judgedTemp, hhot]
    rfl
  have hbays : judgedBay (withCooling p up down l s) =
      fun b => rejudgedBay (min 65535 (l * 1000)) (hot b) (s.temp b) (s.bay b) := by
    funext b
    rw [judgedBay, hhot]
    rfl
  rw [rejudgeAll_eq, htemps, hbays]
  rfl

/-- Settles O45: each table's entry is decoded, and its write is one change, with an attempt where the rules owe one. -/
theorem tablePutStores : Obligations.TablePutStores := by
  intro s dst tag index entry w ht hw hi _ next stores refuses byte word
  have stored : ∀ {clamped : Bool} {f : Work → Work} {u : State} {r : Result},
      putEntry w.table w.pointer entry s = .store clamped f → event f s = u →
      (if clamped then .okClamped else .ok) = r → stores u r :=
    fun hput hu hr => tablePut_stores ht hw hi hput hu hr tag
  have refused : ∀ {r : Result}, putEntry w.table w.pointer entry s = .refuse r → refuses r :=
    fun hput => tablePut_refuses ht hw hi hput tag
  -- An entry that changes nothing an event's end looks at.
  have plain : ∀ {clamped : Bool} {g : State → State} {r : Result},
      putEntry w.table w.pointer entry s = .store clamped (·.map g) → (g s).sched.classes = s.sched.classes →
      (g s).sup.bays = s.sup.bays → (g s).acct = s.acct → (g s).cool.zones = s.cool.zones →
      (if clamped then .okClamped else .ok) = r → stores (g s) r :=
    fun hput hc hb ha hz hr => stored hput (event_map (State.committed_same hc hb) ha hz) hr
  refine ⟨?_, ?_, ?_, ?_, ?_, ?_, ?_, ?_, ?_⟩
  · intro c htab hptr kept
    refine ⟨fun h => refused ?_, fun h => ?_⟩
    · rw [htab]
      exact congrArg (Put.of · _) (decodeClass_beyond h)
    · intro x
      obtain ⟨clamped, hx, hc⟩ := decodeClass_eq h
      have hput : putEntry w.table w.pointer entry s = .store clamped (writeClass c x) := by
        rw [htab, hptr]
        show Put.of (decodeClass entry) (writeClass (Fin.ofNat 8 c.val)) = _
        rw [hx, fin_ofNat_val]
        rfl
      exact stored hput (event_map_owe ..) (result_of_clamped hc)
  · intro i htab hptr t
    have hput : putEntry w.table w.pointer entry s =
        .store (decide (clampInt (-80) 255 t ≠ t)) (writePoint i ⟨clampInt (-80) 255 t, byte 2⟩) := by
      rw [htab, hptr]
      show Put.store _ (writePoint (Fin.ofNat 24 i.val) _) = _
      rw [fin_ofNat_val]
      rfl
    refine plain hput rfl rfl rfl rfl (result_of_clamped ?_)
    simp only [decide_eq_true_eq]
    exact clampInt_ne_iff (by decide) t
  · intro htab hptr c g m u
    have hput : putEntry w.table w.pointer entry s =
        .store (decide (c ≠ word 0) || decide (g ≠ word 2) || decide (m ≠ word 4)) (writePower c g m) := by
      rw [htab, hptr]
      rfl
    refine stored hput (event_writePower ..) (result_of_clamped ?_)
    simp only [Bool.or_eq_true, decide_eq_true_eq, c, g, m]
    omega
  · intro htab hptr
    have hput : putEntry w.table w.pointer entry s =
        .store (decide (clampNat 100 10000 (word 0) ≠ word 0) || decide (clampNat 1 8 (byte 2) ≠ byte 2))
          (writePace ⟨clampNat 100 10000 (word 0), clampNat 1 8 (byte 2)⟩) := by
      rw [htab, hptr]
      rfl
    refine plain hput rfl rfl rfl rfl (result_of_clamped ?_)
    simp only [Bool.or_eq_true, decide_eq_true_eq]
    have hn := clampNat_ne_iff (lo := 100) (hi := 10000) (by decide) (word 0)
    have hl := clampNat_ne_iff (lo := 1) (hi := 8) (by decide) (byte 2)
    omega
  · intro htab hptr
    have hput : putEntry w.table w.pointer entry s =
        .store (decide (max 1 (byte 0) ≠ byte 0) || decide (clampNat 100 5000 (word 1) ≠ word 1))
          (writeTiming (max 1 (byte 0)) (clampNat 100 5000 (word 1))) := by
      rw [htab, hptr]
      rfl
    refine plain hput rfl rfl rfl rfl (result_of_clamped ?_)
    simp only [Bool.or_eq_true, decide_eq_true_eq]
    have hr := clampNat_ne_iff (lo := 100) (hi := 5000) (by decide) (word 1)
    omega
  · intro htab hptr
    have hput : putEntry w.table w.pointer entry s =
        .store (decide (min 15 (byte 0) ≠ byte 0)) (writeBrightness (min 15 (byte 0))) := by
      rw [htab, hptr]
      rfl
    refine plain hput rfl rfl rfl rfl (result_of_clamped ?_)
    simp only [decide_eq_true_eq]
    omega
  · intro pattern three named conds
    refine ⟨fun k htab hptr => ⟨fun h => ?_, fun h => refused ?_⟩, fun k htab hptr => ⟨fun h => ?_, fun h => refused ?_⟩⟩
    · have hput : putEntry w.table w.pointer entry s = .store false (writePatterns k (three 0)) := by
        rw [htab, hptr]
        show Put.of ((decodePatterns (byte 0) (byte 1)).map (·, false)) (writePatterns (Fin.ofNat 32 k.val)) = _
        rw [decodePatterns_eq h, fin_ofNat_val]
        rfl
      exact plain hput rfl rfl rfl rfl rfl
    · rw [htab]
      show Put.of ((decodePatterns (byte 0) (byte 1)).map (·, false)) _ = _
      rw [decodePatterns_beyond h]
      rfl
    · have hput : putEntry w.table w.pointer entry s = .store false (writeRule k
          ⟨conds (word 0), conds (word 2), decide (byte 5 % 2 = 1), three 4⟩) := by
        rw [htab, hptr]
        show Put.of ((decodeRule entry).map (·, false)) (writeRule (Fin.ofNat 16 k.val)) = _
        rw [decodeRule_eq h, fin_ofNat_val]
        rfl
      exact plain hput rfl rfl rfl rfl rfl
    · rw [htab]
      show Put.of ((decodeRule entry).map (·, false)) _ = _
      rw [decodeRule_beyond h]
      rfl
  · intro htab hptr
    refine ⟨fun h => ?_, fun h => refused ?_⟩
    · have hput : putEntry w.table w.pointer entry s =
          .store (decide (max 1 (byte 0) ≠ byte 0)) (writeLoop (max 1 (byte 0)) (decide (byte 1 = 1))) := by
        rw [htab, hptr]
        show putPart 3 entry = _
        rw [putPart, decodeFlag_eq (n := byteAt entry 1) h]
        rfl
      refine plain hput rfl rfl rfl rfl (result_of_clamped ?_)
      simp only [decide_eq_true_eq]
      omega
    · rw [htab, hptr]
      show putPart 3 entry = _
      rw [putPart, decodeFlag_beyond (n := byteAt entry 1) h]
  · intro htab hptr limit hot u v
    have hput : putEntry w.table w.pointer entry s =
        .store
          (decide (clampNat 200 5000 (word 0) ≠ word 0) || decide (max 1 (byte 2) ≠ byte 2) ||
            decide (max 1 (byte 3) ≠ byte 3) || decide (limit ≠ byte 4))
          (writeCooling (clampNat 200 5000 (word 0)) (max 1 (byte 2)) (max 1 (byte 3)) limit) := by
      rw [htab, hptr]
      rfl
    have hu := event_writeCooling s (clampNat 200 5000 (word 0)) (max 1 (byte 2)) (max 1 (byte 3)) limit
    rw [rejudgeAll_withCooling] at hu
    refine stored hput hu (result_of_clamped ?_)
    simp only [Bool.or_eq_true, decide_eq_true_eq, limit]
    have := clampNat_ne_iff (lo := 200) (hi := 5000) (by decide) (word 0)
    omega

end Sys2Proof.Machine
end

section
/-! PROOFS. What a TABLE PUT to the carrier map, the zones, the sensors and the fans does beside the store (R7, R88, R89,
R105, R117, R119, R178). -/

namespace Sys2Proof.Machine

open Sys2Proof.Safety

/-! ### The end of an event that changes the reserve or the holds alone (R58) -/

theorem holdCleared_iff (s t : State) :
    holdCleared s t = true ↔ ∃ z : ZoneIx, (s.zone z).hold = true ∧ (t.zone z).hold = false := by
  have every : ∀ z : ZoneIx, z ∈ allZones := List.mem_finRange
  simp [holdCleared, every]

theorem event_map_cooling {g : State → State} {s : State} (hd : (g s).committed = s.committed)
    (ho : (g s).acct.overdraw = s.acct.overdraw) :
    event (·.map g) s =
      if (g s).acct.fanReserve < s.acct.fanReserve ∨ holdCleared s (g s) = true then attempt (g s) else g s := by
  have asks : fellOrCleared s (g s) = true ↔
      (g s).acct.fanReserve < s.acct.fanReserve ∨ holdCleared s (g s) = true := by
    simp [fellOrCleared, hd, ho]
  simp [event, Work.finish, Work.start, Work.map, Work.entered_nil, asks]

/-! ### Carrier map, table 1 (R7) -/

theorem decodeCarrier_cls (c : ClassIx) : decodeCarrier c.val = some (.cls c) := dif_pos c.isLt

theorem decodeCarrier_beyond {n : Nat} (h : 8 ≤ n) (hb : n ≠ 14) (hu : n ≠ 15) : decodeCarrier n = none := by
  unfold decodeCarrier
  rw [dif_neg (by omega), if_neg hb, if_neg hu]

/-! ### Sensors, table 7 (R88, R89) -/

theorem decodeZone_eq {n : Nat} (h : n < 4) : decodeZone n = some (Fin.ofNat 4 n) := by
  unfold decodeZone
  rw [dif_pos h]
  exact congrArg some (Fin.ext (Nat.mod_eq_of_lt h).symm)

theorem decodeZoneOrNone_eq {n : Nat} (h : n < 4 ∨ n = 255) :
    decodeZoneOrNone n = some (if n = 255 then none else some (Fin.ofNat 4 n)) := by
  unfold decodeZoneOrNone
  split
  · rfl
  · rw [decodeZone_eq (by omega)]
    rfl

theorem decodeZoneOrNone_beyond {n : Nat} (h : ¬(n < 4 ∨ n = 255)) : decodeZoneOrNone n = none := by
  unfold decodeZoneOrNone
  rw [if_neg (by omega), decodeZone_beyond (by omega)]
  rfl

theorem decodeSensor_eq {e : List Byte} (h : byteAt e 0 < 2 ∧ (byteAt e 1 < 4 ∨ byteAt e 1 = 255) ∧ byteAt e 2 < 2) :
    decodeSensor e = some
      (⟨decide (byteAt e 0 = 1), if byteAt e 1 = 255 then none else some (Fin.ofNat 4 (byteAt e 1)),
        decide (byteAt e 2 = 1), min 7 (byteAt e 3), wordAt e 4, (e.getD 6 0#8).toInt⟩,
      decide (min 7 (byteAt e 3) ≠ byteAt e 3)) := by
  have signed : BitVec.ofNat 8 (byteAt e 6) = e.getD 6 0#8 := BitVec.eq_of_toNat_eq (by simp [byteAt])
  simp only [decodeSensor, decodeFlag_eq h.1, decodeZoneOrNone_eq h.2.1, decodeFlag_eq h.2.2, signed]

theorem decodeSensor_beyond {e : List Byte}
    (h : ¬(byteAt e 0 < 2 ∧ (byteAt e 1 < 4 ∨ byteAt e 1 = 255) ∧ byteAt e 2 < 2)) : decodeSensor e = none := by
  unfold decodeSensor
  by_cases h0 : byteAt e 0 < 2
  · by_cases h1 : byteAt e 1 < 4 ∨ byteAt e 1 = 255
    · rw [decodeFlag_beyond (n := byteAt e 2) (by omega)]
      cases decodeFlag (byteAt e 0) <;> cases decodeZoneOrNone (byteAt e 1) <;> rfl
    · rw [decodeZoneOrNone_beyond h1]
      cases decodeFlag (byteAt e 0) <;> rfl
  · rw [decodeFlag_beyond (n := byteAt e 0) (by omega)]

/-- The sensor entry stored. -/
def withSensor (ch : ChannelIx) (c : SensorCfg) (s : State) : State :=
  { s with scan := { s.scan with sensors := s.scan.sensors.set ch c } }

/-- Channel ch without its valid reading, and its conversion under way cancelled (R88). -/
def silenced (ch : ChannelIx) (s : State) : State :=
  { s with
    scan :=
      { s.scan with
        channels := s.scan.channels.set ch { s.channel ch with valid := false }
        converting := s.scan.converting.map fun k => if k.channel = ch then { k with cancelled := true } else k } }

theorem writeSensor_eq (ch : ChannelIx) (c : SensorCfg) (s : State) :
    writeSensor ch c s =
      if (s.sensor ch).enabled = true ∧ c.enabled = false then silenced ch (withSensor ch c s)
      else withSensor ch c s := by
  unfold writeSensor
  by_cases h : (s.sensor ch).enabled = true ∧ c.enabled = false
  · have off : ((s.sensor ch).enabled && !c.enabled) = true := by simp [h]
    rw [if_pos h]
    refine (if_pos off).trans ?_
    unfold silenced
    cases hc : s.scan.converting with
    | none => simp [withSensor, State.setChannel, hc, State.channel]
    | some k =>
      by_cases hk : k.channel = ch <;> simp [withSensor, State.setChannel, hc, hk, State.channel]
  · have on : ((s.sensor ch).enabled && !c.enabled) = false := by
      cases he : (s.sensor ch).enabled <;> cases hn : c.enabled <;> simp_all
    rw [if_neg h]
    simp only [on]
    rfl

/-- What a sensor write leaves alone of the scan. -/
theorem writeSensor_scan (ch : ChannelIx) (c : SensorCfg) (s : State) :
    writeSensor ch c s =
      { s with
        scan :=
          { s.scan with
            sensors := (writeSensor ch c s).scan.sensors
            channels := (writeSensor ch c s).scan.channels
            converting := (writeSensor ch c s).scan.converting } } := by
  rw [writeSensor_eq]
  split <;> rfl

/-! ### Fans, table 8 (R117, R119) -/

theorem decodeFan_eq {e : List Byte} (h : byteAt e 0 < 2 ∧ byteAt e 1 < 4) :
    decodeFan e = some
      (⟨decide (byteAt e 0 = 1), Fin.ofNat 4 (byteAt e 1), min 1000 (wordAt e 2), byteAt e 4, wordAt e 5,
        clampNat 1 4 (byteAt e 7)⟩,
      decide (min 1000 (wordAt e 2) ≠ wordAt e 2) || decide (clampNat 1 4 (byteAt e 7) ≠ byteAt e 7)) := by
  simp only [decodeFan, decodeFlag_eq h.1, decodeZone_eq h.2]

theorem decodeFan_beyond {e : List Byte} (h : ¬(byteAt e 0 < 2 ∧ byteAt e 1 < 4)) : decodeFan e = none := by
  unfold decodeFan
  by_cases h0 : byteAt e 0 < 2
  · rw [decodeZone_beyond (n := byteAt e 1) (by omega)]
    cases decodeFlag (byteAt e 0) <;> rfl
  · rw [decodeFlag_beyond (n := byteAt e 0) (by omega)]

theorem DemandSource.full_iff (d : DemandSource) : d.full = true ↔ d = .fanFailed ∨ d = .critical := by
  cases d <;> decide

theorem rewriteFan_eq (old c : FanCfg) (z : Zone) (x : Fan) : rewriteFan old c z x = fanRewritten old c z x := by
  have raised : (if z.source.full then max x.applied (max z.demand c.minDuty) else max x.applied c.minDuty) =
      max x.applied (if z.source = .fanFailed ∨ z.source = .critical then max z.demand c.minDuty else c.minDuty) := by
    simp only [DemandSource.full_iff]
    split <;> rfl
  unfold rewriteFan fanRewritten
  dsimp only
  rw [raised]
  cases hc : c.enabled with
  | false => cases ho : old.enabled <;> simp
  | true =>
    cases ho : old.enabled with
    | false => simp
    | true =>
      by_cases hz : old.zone = c.zone
      · by_cases hd : old.minDuty = c.minDuty <;> simp [hz, hd]
      · simp [hz]

theorem zoneHasFailure_iff (s : State) (z : ZoneIx) :
    zoneHasFailure s z = true ↔
      ∃ f : FanIx, (s.fanCfg f).enabled = true ∧ (s.fanCfg f).zone = z ∧ (s.fan f).state = .failed := by
  have every : ∀ f : FanIx, f ∈ allFans := List.mem_finRange
  simp [zoneHasFailure, fanOf, every, and_assoc]

/-- The fan entry stored, with the fan's own record as it makes it. -/
def withFan (f : FanIx) (c : FanCfg) (s : State) : State :=
  { s with
    cool :=
      { s.cool with
        fanCfg := s.cool.fanCfg.set f c
        fans := s.cool.fans.set f (fanRewritten (s.fanCfg f) c (s.zone c.zone) (s.fan f)) } }

theorem writeFan_eq (f : FanIx) (c : FanCfg) (s : State) :
    writeFan f c s = recomputeHolds (handReserve (spreadFailure (withFan f c s))) := by
  rw [withFan, ← rewriteFan_eq]
  rfl

/-- Zones that gain the field take demand 255 with its source, and their enabled fans 255 (R119). -/
theorem spreadFailure_eq {s : State} {failed : ZoneIx → Bool} (h : ∀ z, zoneHasFailure s z = failed z) :
    spreadFailure s =
      let gains := fun z => failed z && !(s.zone z).fanFailed
      { s with
        cool :=
          { s.cool with
            zones := Vector.ofFn fun z =>
              if gains z then { s.zone z with fanFailed := true, demand := 255, source := .fanFailed }
              else { s.zone z with fanFailed := failed z }
            fans := Vector.ofFn fun g =>
              if (s.fanCfg g).enabled && gains (s.fanCfg g).zone then { s.fan g with target := 255, applied := 255 }
              else s.fan g } } := by
  obtain rfl : zoneHasFailure s = failed := funext h
  rfl

theorem event_writeFan (f : FanIx) (c : FanCfg) (s : State) :
    event (·.map (writeFan f c)) s =
      let u := recomputeHolds (handReserve (spreadFailure (withFan f c s)))
      if u.acct.fanReserve < s.acct.fanReserve ∨ holdCleared s u = true then attempt u else u := by
  have e := event_map_cooling (g := writeFan f c) (s := s)
  rw [writeFan_eq] at e
  exact e (State.committed_same rfl rfl) rfl

/-! ### Zones, table 6 (R105) -/

/-- The zone entry stored. -/
def withZone (z : ZoneIx) (c : ZoneCfg) (s : State) : State :=
  { s with cool := { s.cool with zoneCfg := s.cool.zoneCfg.set z c } }

theorem event_writeZoneCfg (z : ZoneIx) (c : ZoneCfg) (s : State) :
    event (writeZoneCfg z c) s =
      let u := recomputeHolds (withZone z c s)
      if holdCleared s u = true then attempt u else u := by
  have e := event_map_cooling (g := fun s => recomputeHolds (withZone z c s)) (s := s)
    (State.committed_same rfl rfl) rfl
  have kept : ¬(recomputeHolds (withZone z c s)).acct.fanReserve < s.acct.fanReserve := Nat.lt_irrefl _
  simp only [kept, false_or] at e
  exact e

end Sys2Proof.Machine
end

section
/-! PROOFS. Where a bay stands towards the queue after an operation of its own, and the event of operations on one bay
(R45 to R49). -/

namespace Sys2Proof.Machine

open Sys2Proof.Safety

/-! ### A bay's standing in a working record -/

@[simp] theorem Work.withdraw_temp (w : Work) (b d : BayIx) : (w.withdraw b).st.temp d = w.st.temp d := rfl

/-- Where a bay stands: outside the queue, in its place, or asked to the tail or the head. -/
inductive Place where
  | out
  | kept
  | tail
  | head

/-- Bay b stands so in w. -/
def Stands (b : BayIx) (w : Work) : Place → Prop
  | .out => b ∉ w.st.sched.queue ∧ b ∉ w.tails ∧ b ∉ w.heads
  | .kept => b ∈ w.st.sched.queue ∧ b ∉ w.tails ∧ b ∉ w.heads
  | .tail => b ∉ w.st.sched.queue ∧ b ∈ w.tails ∧ b ∉ w.heads
  | .head => b ∉ w.tails ∧ b ∈ w.heads

section

variable {b : BayIx} {w : Work} {p : Place}

theorem Stands.setBay (h : Stands b w p) (c : BayIx) (x : Bay) : Stands b (w.setBay c x) p := by
  cases p <;> exact h

theorem Stands.owe (h : Stands b w p) : Stands b w.owe p := by
  cases p <;> exact h

theorem Stands.removePower (h : Stands b w p) (c : BayIx) (next : BayState) :
    Stands b (removePower c next w) p := by
  cases p <;> exact h

theorem Stands.enterTail (h : Stands b w .out) : Stands b (w.enterTail b) .tail := by
  obtain ⟨hq, -, hh⟩ := h
  exact ⟨hq, List.mem_cons_self, hh⟩

theorem stands_enterHead (b : BayIx) (w : Work) : Stands b (w.enterHead b) .head := by
  simp [Stands, Work.enterHead]

theorem stands_withdraw (b : BayIx) (w : Work) : Stands b (w.withdraw b) .out := by
  simp [Stands, Work.withdraw]

/-- At the start of an event in which the queue matches the states. -/
theorem stands_start {s : State} {b : BayIx} (h : b ∈ s.sched.queue ↔ (s.bay b).state = .queued) :
    Stands b (Work.start s) (if (s.bay b).state = .queued then .kept else .out) := by
  split
  · next hq => exact ⟨h.mpr hq, List.not_mem_nil, List.not_mem_nil⟩
  · next hq => exact ⟨mt h.mp hq, List.not_mem_nil, List.not_mem_nil⟩

end

/-! ### The standing that an operation leaves, by the records before and after it -/

/-- The standing of a bay whose record x has become y. One that comes to QUEUED goes to the head where its desire sets
expedite; one that was QUEUED stays, or is moved to the head if `again`. -/
def placed (again : Bool) (x y : Bay) (p : Place) : Place :=
  if y.state ≠ .queued then .out
  else if (evaluated x).expedite = true ∧ (x.state = .idle ∨ again = true) then .head
  else if x.state = .queued then p
  else .tail

/-- The temperature record of a bay whose record x has become y: it goes with the power (R23). -/
def cooled (x y : Bay) (t : Option TempRec) : Option TempRec :=
  if x.powered = true ∧ y.state = .drain then none else t

/-- w' is w after operations on bay b. The bay's new standing is told for a bay that stands in the queue only while it is
QUEUED. -/
structure Moved (again : Bool) (b : BayIx) (w w' : Work) : Prop where
  stands : ∀ p, Stands b w p → ((w.st.bay b).state ≠ .queued → p = .out) →
    Stands b w' (placed again (w.st.bay b) (w'.st.bay b) p)
  temp : w'.st.temp b = cooled (w.st.bay b) (w'.st.bay b) (w.st.temp b)

theorem placed_out {again : Bool} {x y : Bay} {p : Place} (h : y.state ≠ .queued) : placed again x y p = .out := if_pos h

theorem placed_head {again : Bool} {x y : Bay} {p : Place} (h : y.state = .queued) (he : (evaluated x).expedite = true)
    (hx : x.state = .idle ∨ again = true) : placed again x y p = .head := by
  simp only [placed, h, ne_eq, not_true_eq_false, if_false, he, hx, and_self, if_true]

theorem placed_stays {again : Bool} {x y : Bay} {p : Place} (h : y.state = .queued) (hx : x.state = .queued)
    (he : (evaluated x).expedite = true → again = false) : placed again x y p = p := by
  have none : ¬((evaluated x).expedite = true ∧ (x.state = .idle ∨ again = true)) := by
    rintro ⟨h1, h2⟩
    simp [he h1, hx] at h2
  rw [placed, if_neg (not_not_intro h), if_neg none, if_pos hx]

theorem placed_tail {again : Bool} {x y : Bay} {p : Place} (h : y.state = .queued) (hx : x.state ≠ .queued)
    (he : (evaluated x).expedite = false) : placed again x y p = .tail := by
  simp [placed, h, he, hx]

theorem cooled_same {x y : Bay} (h : x.powered = true → y.state ≠ .drain) (t : Option TempRec) : cooled x y t = t :=
  if_neg fun ⟨h1, h2⟩ => h h1 h2

/-! ### The records that stand in the queue after an evaluation or a class resolved again -/

section Records

variable {limit : Int} {surge : ClassIx → Nat} {interval : Nat} {policy : Policy} {x : Bay}

theorem obeyedRecord_queued (h : (obeyedRecord limit surge interval policy x).state = .queued) :
    (x.state = .idle ∨ x.state = .queued) ∧ wants policy x = true := by
  unfold obeyedRecord at h
  cases hst : x.state with
  | idle =>
    cases hc : x.cls <;> cases hw : wants policy x <;> simp_all [evaluated]
  | queued => cases hw : wants policy x <;> simp_all
  | surge | run => cases hw : wants policy x <;> simp_all [evaluated]
  | empty | settling | drain | fault => simp_all [evaluated]

theorem obeyedRecord_idle (h : (obeyedRecord limit surge interval policy x).state = .idle) :
    (x.state = .idle ∧ obeyedRecord limit surge interval policy x = evaluated x) ∨
      (x.state = .queued ∧ wants policy x = false) := by
  unfold obeyedRecord at h ⊢
  cases hst : x.state with
  | idle =>
    cases hc : x.cls with
    | blank | unresolved => simp
    | cls c =>
      cases hw : wants policy x with
      | false => simp
      | true => by_cases hl : limit < surge c <;> simp_all [faulted]
  | queued => cases hw : wants policy x <;> simp_all
  | surge | run => cases hw : wants policy x <;> simp_all [evaluated]
  | empty | settling | drain | fault => simp_all [evaluated]

theorem reclassedRecord_queued {answer : CarrierEntry}
    (h : (reclassedRecord limit surge (obeyedRecord limit surge interval policy) answer x).state = .queued) :
    x.state = .queued ∨ (x.state = .idle ∧ wants policy x = true) := by
  unfold reclassedRecord at h
  cases hst : x.state with
  | queued => exact .inl rfl
  | idle =>
    cases ha : answer with
    | cls c =>
      simp only [hst, ha] at h
      exact .inr ⟨rfl, (obeyedRecord_queued h).2⟩
    | blank | unsupported => simp_all [faulted]
  | empty | settling | surge | run | drain | fault => simp_all

end Records

section Moved

variable {b : BayIx} {w : Work} {x : Bay}

/-- Nothing done. -/
theorem Moved.refl (b : BayIx) (w : Work) : Moved false b w w := by
  refine ⟨fun p hw hp => ?_, (cooled_same (fun h hd => ?_) _).symm⟩
  · by_cases h : (w.st.bay b).state = .queued
    · rwa [placed_stays h h fun _ => rfl]
    · rw [placed_out h]
      exact hp h ▸ hw
  · simp [Bay.powered, hd] at h

variable (hx : w.st.bay b = x)

include hx

/-- A change of the record that brings the bay neither into the queue nor out of it. -/
theorem moved_setBay (again : Bool) {y : Bay} (h : x.state ≠ .queued) (hy : y.state ≠ .queued)
    (hd : x.powered = true → y.state ≠ .drain) : Moved again b w (w.setBay b y) := by
  subst hx
  refine ⟨fun p hw hp => ?_, ?_⟩
  · rw [Work.st_setBay, State.bay_setBay_same, placed_out hy, ← hp h]
    exact hw.setBay ..
  · rw [Work.st_setBay, State.bay_setBay_same, cooled_same hd]
    rfl

theorem evaluate_moved : Moved true b w (evaluate b w) := by
  have other : x.state ≠ .queued → ∀ y : Bay, y.state ≠ .queued → (x.powered = true → y.state ≠ .drain) →
      Moved true b w (w.setBay b y) := fun h y => moved_setBay hx true h
  cases hst : x.state with
  | empty | settling | drain | fault =>
    rw [evaluate_unpowered_still (s := w.st) rfl hx (by simp [hst])]
    exact other (by simp [hst]) _ (by simp [evaluated, hst]) (by simp [Bay.powered, hst])
  | surge | run =>
    rw [evaluate_powered (s := w.st) rfl hx (by simp [hst])]
    split
    · exact other (by simp [hst]) _ (by simp [evaluated, hst]) (by simp [evaluated, hst])
    · subst hx
      refine ⟨fun p hw hp => ?_, ?_⟩
      · rw [placed_out (by simp [removePower_eq, Work.map]), ← hp (by simp [hst])]
        exact hw.removePower ..
      · simp [removePower_eq, Work.map, cooled, Bay.powered, hst]
  | queued =>
    have np : x.powered = false := by simp [Bay.powered, hst]
    rw [evaluate_queued (s := w.st) rfl hx hst]
    subst hx
    split
    · split
      · next he =>
        refine ⟨fun p _ _ => ?_, ?_⟩
        · rw [placed_head (by simp [evaluated, hst]) he (.inr rfl)]
          exact stands_enterHead ..
        · simp [cooled, np]
      · next he =>
        refine ⟨fun p hw _ => ?_, by simp [cooled, np]⟩
        rwa [placed_stays hst hst fun h => absurd h he]
    · refine ⟨fun p _ _ => ?_, ?_⟩
      · rw [placed_out (by simp)]
        exact stands_withdraw ..
      · simp [cooled, np]
  | idle =>
    have np : x.powered = false := by simp [Bay.powered, hst]
    have nq : x.state ≠ .queued := by simp [hst]
    have still : Moved true b w (w.setBay b (evaluated x)) :=
      other nq _ (by simp [evaluated, hst]) (by simp [np])
    cases hc : x.cls with
    | blank | unresolved =>
      rw [evaluate_idle_noClass (s := w.st) rfl hx hst (by simp [hc])]
      exact still
    | cls c =>
      rw [evaluate_idle_cls (s := w.st) rfl hx hst hc]
      split
      · split
        · exact other nq _ (by simp [faulted]) (by simp [np])
        · subst hx
          refine ⟨fun p hw hp => ?_, ?_⟩
          · rw [enterQueued_setBay]
            split
            · next he =>
              rw [placed_head (by simp) he (.inl hst)]
              exact stands_enterHead ..
            · next he =>
              rw [placed_tail (by simp) nq (by simpa using he)]
              rw [hp nq] at hw
              exact (hw.setBay ..).enterTail
          · rw [enterQueued_setBay]
            split <;> simp [cooled, np]
      · exact still

/-- A class resolved again, in IDLE or QUEUED. -/
theorem reresolve_moved : Moved false b w (reresolve b w) := by
  have fault : x.state = .idle → ∀ k c, Moved false b w (enterFault b c (w.setBay b { x with cls := k })) := by
    intro hst k c
    rw [enterFault_unpowered (by simp [Bay.powered, hst])]
    simp only [Work.st_setBay, State.bay_setBay_same, Work.setBay_setBay]
    exact moved_setBay hx false (by simp [hst]) (by simp [faulted]) (by simp [Bay.powered, hst])
  have withdrawn : x.state = .queued → ∀ y : Bay, y.state ≠ .queued →
      Moved false b w ((w.setBay b y).withdraw b) := by
    intro hst y hy
    have np : x.powered = false := by simp [Bay.powered, hst]
    subst hx
    refine ⟨fun p _ _ => ?_, by simp [cooled, np]⟩
    rw [placed_out (by simpa using hy)]
    exact stands_withdraw ..
  have withdrawnFault : x.state = .queued → ∀ k c,
      Moved false b w (enterFault b c ((w.setBay b { x with cls := k }).withdraw b)) := by
    intro hst k c
    rw [enterFault_unpowered (by simp [Bay.powered, hst]), Work.withdraw_setBay]
    simp only [Work.withdraw_bay, Work.st_setBay, State.bay_setBay_same, Work.setBay_setBay]
    exact withdrawn hst _ (by simp [faulted])
  unfold reresolve
  rw [hx]
  dsimp only
  split
  · next hst =>
    have np : x.powered = false := by simp [Bay.powered, hst]
    split
    · exact fault hst ..
    · exact moved_setBay hx false (by simp [hst]) (by simp [hst]) (by simp [np])
    · next k _ =>
      obtain ⟨hs, ht⟩ := evaluate_moved (b := b) (w := w.setBay b { x with cls := .cls k })
        (x := { x with cls := .cls k }) (by simp)
      generalize evaluate b (w.setBay b { x with cls := .cls k }) = w' at hs ht
      simp only [Work.st_setBay, State.bay_setBay_same] at hs ht
      subst hx
      exact ⟨fun p hw hp => by simpa [placed, hst, evaluated] using hs p (hw.setBay ..) hp,
        by simpa [cooled, Bay.powered, hst] using ht⟩
  · next hst =>
    have np : x.powered = false := by simp [Bay.powered, hst]
    split
    · exact withdrawnFault hst ..
    · rw [evaluate_idle_noClass (x := { x with cls := .blank, state := .idle }) rfl (by simp) rfl (by simp),
        Work.withdraw_setBay, Work.setBay_setBay]
      exact withdrawn hst _ (by simp [evaluated])
    · split
      · exact withdrawnFault hst ..
      · subst hx
        refine ⟨fun p hw _ => ?_, by simp [cooled, np, Work.owe]⟩
        rw [placed_stays (by simp [Work.owe, hst]) hst fun _ => rfl]
        exact (hw.setBay ..).owe
  all_goals exact Moved.refl b w

/-- A desire evaluated after a restored policy: a QUEUED bay that wants power stays. -/
theorem evaluateRestored_moved : Moved false b w (evaluateRestored b w) := by
  unfold evaluateRestored
  split
  · exact Moved.refl b w
  · next h =>
    obtain ⟨hs, ht⟩ := evaluate_moved hx
    refine ⟨fun p hw hp => ?_, ht⟩
    have hs := hs p hw hp
    by_cases hst : x.state = .queued
    · subst hx
      have off : wants (w.st.bayCfg b).policy (w.st.bay b) = false := by
        simpa [hst, desire_eq] using h
      have left : ((evaluate b w).st.bay b).state ≠ .queued := by
        rw [evaluate_bay_same]
        simp [obeyedRecord, hst, off]
      rw [placed_out left] at hs ⊢
      exact hs
    · subst hx
      have same : placed true (w.st.bay b) ((evaluate b w).st.bay b) p =
          placed false (w.st.bay b) ((evaluate b w).st.bay b) p := by
        by_cases hq : ((evaluate b w).st.bay b).state = .queued
        · rw [evaluate_bay_same] at hq
          have idle := (obeyedRecord_queued hq).1.resolve_right hst
          simp only [placed, idle, true_or]
        · rw [placed_out hq, placed_out hq]
      rwa [same] at hs

end Moved

end Sys2Proof.Machine
end

section
/-! PROOFS. The event of operations on one bay, by the standing they leave (R45 to R49, R58). -/

namespace Sys2Proof.Machine

open Sys2Proof.Safety

/-! ### Two operations on one bay -/

theorem cooled_trans {x y z : Bay} (hu : x.powered = false → y.powered = false)
    (hs : x.powered = true → z = y ∨ y = x) (t : Option TempRec) : cooled y z (cooled x y t) = cooled x z t := by
  have never : ∀ a : Bay, a.powered = true → a.state ≠ .drain := fun a ha hd => by simp [Bay.powered, hd] at ha
  cases hx : x.powered with
  | false => rw [cooled_same (x := x) (by simp [hx]), cooled_same (x := y) (by simp [hu hx]), cooled_same (by simp [hx])]
  | true =>
    rcases hs hx with rfl | rfl
    · rw [cooled_same (never z)]
    · rw [cooled_same (x := y) (y := y) (never y)]

/-- The standing after two operations is that of one step between the outer records, where the second one does not move a
QUEUED bay. -/
theorem placed_trans {again : Bool} {x y z : Bay} (p : Place)
    (h : z.state = .queued →
      y.state = .queued ∨ (y.state = .idle ∧ x.state = .idle ∧ (evaluated y).expedite = (evaluated x).expedite)) :
    placed false y z (placed again x y p) = placed again x z p := by
  by_cases hz : z.state = .queued
  · rcases h hz with hy | ⟨hy, hx, he⟩
    · rw [placed_stays hz hy fun _ => rfl, placed, placed, hy, hz]
    · cases hh : (evaluated x).expedite with
      | true => rw [placed_head hz (he.trans hh) (.inl hy), placed_head hz hh (.inl hx)]
      | false => rw [placed_tail hz (by simp [hy]) (he.trans hh), placed_tail hz (by simp [hx]) hh]
  · rw [placed_out hz, placed_out hz]

theorem Moved.trans {again : Bool} {b : BayIx} {w w' w'' : Work} {x y z : Bay} (hx : w.st.bay b = x)
    (hy : w'.st.bay b = y) (hz : w''.st.bay b = z) (h : Moved again b w w') (k : Moved false b w' w'')
    (hq : z.state = .queued →
      y.state = .queued ∨ (y.state = .idle ∧ x.state = .idle ∧ (evaluated y).expedite = (evaluated x).expedite))
    (hu : x.powered = false → y.powered = false) (hs : x.powered = true → z = y ∨ y = x) : Moved again b w w'' := by
  subst hx hy hz
  refine ⟨fun p hw hp => ?_, ?_⟩
  · rw [← placed_trans p hq]
    exact k.stands _ (h.stands p hw hp) placed_out
  · rw [k.temp, h.temp, cooled_trans hu hs]

/-! ### The state that operations on one bay lead to -/

/-- The queue with a bay in its new place. -/
def Place.queue (b : BayIx) (q : List BayIx) : Place → List BayIx
  | .out => q.filter (· ≠ b)
  | .kept => q
  | .tail => q.filter (· ≠ b) ++ [b]
  | .head => b :: q.filter (· ≠ b)

/-- The bay asks for an entry, so that an attempt follows. -/
def Place.Asks (p : Place) : Prop := p = .tail ∨ p = .head

theorem Edits.bays {b : BayIx} {w w' : Work} (h : Edits b w w') :
    w'.st.sup.bays = (w.st.setBay b (w'.st.bay b)).sup.bays := by
  refine Vector.ext fun i hi => ?_
  show w'.st.bay ⟨i, hi⟩ = (w.st.setBay b (w'.st.bay b)).bay ⟨i, hi⟩
  rw [State.bay_setBay]
  split
  · next e => rw [e]
  · next e => exact (h.others _ e).bay

theorem Edits.temps {b : BayIx} {w w' : Work} (h : Edits b w w') :
    w'.st.scan.temps = (w.st.setTemp b (w'.st.temp b)).scan.temps := by
  refine Vector.ext fun i hi => ?_
  show w'.st.temp ⟨i, hi⟩ = (w.st.setTemp b (w'.st.temp b)).temp ⟨i, hi⟩
  by_cases e : (⟨i, hi⟩ : BayIx) = b
  · rw [e, State.temp_setTemp_same]
  · rw [State.temp_setTemp_other _ _ e]
    exact (h.others _ e).temp

/-- The state t with the record and the temperature of bay b replaced, and the bay in its new place. -/
def moved (t : State) (b : BayIx) (z : Bay) (temp : Option TempRec) (p : Place) : State :=
  { (t.setBay b z).setTemp b temp with sched := { t.sched with queue := p.queue b t.sched.queue } }

section Finish

variable {s t : State} {b : BayIx} {w : Work} {p : Place} (h : Edits b (Work.start t) w) (hp : Stands b w p)

include h

/-- Only the bay itself can have left the queue. -/
theorem queue_others : w.st.sched.queue.filter (· ≠ b) = t.sched.queue.filter (· ≠ b) := by
  have stays : ∀ c, c ≠ b → c ∈ t.sched.queue → c ∈ w.st.sched.queue := fun c hc => (h.others c hc).queue.mpr
  rw [h.frame.order, List.filter_filter]
  refine List.filter_congr fun c hm => ?_
  by_cases hc : c = b
  · simp [hc]
  · simp [hc, stays c hc hm]

theorem queue_of_notMem (hb : b ∉ w.st.sched.queue) : w.st.sched.queue = t.sched.queue.filter (· ≠ b) := by
  rw [← queue_others h]
  exact (List.filter_eq_self.mpr fun c hc => by simpa using fun e : c = b => hb (e ▸ hc)).symm

theorem queue_of_mem (hb : b ∈ w.st.sched.queue) : w.st.sched.queue = t.sched.queue := by
  rw [h.frame.order]
  refine List.filter_eq_self.mpr fun c hc => ?_
  by_cases e : c = b
  · simpa [e] using hb
  · simpa using (h.others c e).queue.mpr hc

theorem mem_tails_iff (c : BayIx) : c ∈ w.tails ↔ c = b ∧ b ∈ w.tails := by
  by_cases hc : c = b
  · simp [hc]
  · simpa [hc, Work.start] using (h.others c hc).tails

theorem mem_heads_iff (c : BayIx) : c ∈ w.heads ↔ c = b ∧ b ∈ w.heads := by
  by_cases hc : c = b
  · simp [hc]
  · simpa [hc, Work.start] using (h.others c hc).heads

include hp

theorem groupedQueue_moved : groupedQueue w.st.sched.queue w.tails w.heads = p.queue b t.sched.queue := by
  have none : ∀ l : List BayIx, (∀ c, c ∈ l ↔ c = b ∧ b ∈ l) → b ∉ l → ∀ c, c ∈ l ↔ c ∈ ([] : List BayIx) :=
    fun l hl hb c => (hl c).trans (by simp [hb])
  have one : ∀ l : List BayIx, (∀ c, c ∈ l ↔ c = b ∧ b ∈ l) → b ∈ l → ∀ c, c ∈ l ↔ c ∈ [b] :=
    fun l hl hb c => (hl c).trans (by simp [hb])
  have tails := mem_tails_iff h
  have heads := mem_heads_iff h
  cases p with
  | out =>
    obtain ⟨hq, ht, hh⟩ := hp
    rw [groupedQueue_congr (none _ tails ht) (none _ heads hh), queue_of_notMem h hq]
    simp [groupedQueue, Place.queue]
  | kept =>
    obtain ⟨hq, ht, hh⟩ := hp
    rw [groupedQueue_congr (none _ tails ht) (none _ heads hh), queue_of_mem h hq]
    simp [groupedQueue, Place.queue]
  | tail =>
    obtain ⟨hq, ht, hh⟩ := hp
    rw [groupedQueue_congr (one _ tails ht) (none _ heads hh), queue_of_notMem h hq]
    simp [groupedQueue, Place.queue, filter_eq_allBays]
  | head =>
    obtain ⟨ht, hh⟩ := hp
    have others := queue_others h
    rw [groupedQueue_congr (none _ tails ht) (one _ heads hh)]
    simp only [ne_eq, decide_not] at others
    simp [groupedQueue, others, Place.queue, filter_eq_allBays]

theorem entered_moved : w.entered = moved t b (w.st.bay b) (w.st.temp b) p := by
  have rest := h.frame.rest
  rw [h.bays, h.temps] at rest
  rw [Work.entered, groupedQueue_moved h hp]
  generalize w.st.bay b = z, w.st.temp b = u at rest ⊢
  rw [rest]
  rfl

theorem asks_iff : (!w.tails.isEmpty || !w.heads.isEmpty) = true ↔ p.Asks := by
  have empty : ∀ l : List BayIx, (∀ c, c ∈ l ↔ c = b ∧ b ∈ l) → (!l.isEmpty) = decide (b ∈ l) := fun l hl => by
    cases l with
    | nil => simp
    | cons c l => simpa using ((hl c).mp List.mem_cons_self).2
  rw [empty _ (mem_tails_iff h), empty _ (mem_heads_iff h)]
  cases p with
  | out | kept | tail =>
    obtain ⟨-, ht, hh⟩ := hp
    simp [Place.Asks, ht, hh]
  | head =>
    obtain ⟨ht, hh⟩ := hp
    simp [Place.Asks, ht, hh]

/-- The end of an event that operations on one bay make of a state with the account and zones it started with. -/
theorem finish_moved (ha : t.acct = s.acct) (hz : t.cool.zones = s.cool.zones) :
    let v := moved t b (w.st.bay b) (w.st.temp b) p
    let owed := w.owed = true ∨ p.Asks ∨ v.committed < s.committed
    (owed → w.finish s = attempt v) ∧ (¬owed → w.finish s = v) := by
  intro v owed
  have hv : w.entered = v := entered_moved h hp
  have asks : (w.owed || !w.tails.isEmpty || !w.heads.isEmpty || fellOrCleared s w.entered) = true ↔ owed := by
    rw [hv, Bool.or_assoc w.owed, Bool.or_eq_true, Bool.or_eq_true, asks_iff h hp, or_assoc]
    have quiet : holdCleared s v = false := holdCleared_of_zones_eq hz
    have acct : v.acct = s.acct := ha
    simp [fellOrCleared, quiet, acct, owed]
  unfold Work.finish
  exact ⟨fun ho => (if_pos (asks.mpr ho)).trans (congrArg attempt hv), fun ho => (if_neg (mt asks.mp ho)).trans hv⟩

end Finish

end Sys2Proof.Machine
end

section
/-! PROOFS. What a TABLE PUT to table 0 does beside the store (R5, R6, R31, R178, R179). -/

namespace Sys2Proof.Machine

open Sys2Proof.Safety

/-! ### The entry of table 0 -/

theorem decodeSlot_eq {n : Nat} (h : n < 192 ∨ 254 ≤ n) (hn : n < 256) :
    decodeSlot n = some (if n < 192 then .slot n else if n = 254 then .unmapped else .byPosition) := by
  unfold decodeSlot
  split
  · rfl
  · split
    · rfl
    · rw [if_pos (by omega)]

theorem decodeSlot_beyond {n : Nat} (h : ¬(n < 192 ∨ 254 ≤ n)) : decodeSlot n = none := by
  unfold decodeSlot
  rw [if_neg (by omega), if_neg (by omega), if_neg (by omega)]

theorem decodeOverride_eq {n : Nat} (h : n < 8 ∨ n = 255) :
    decodeOverride n = some (if n = 255 then none else some (Fin.ofNat 8 n)) := by
  unfold decodeOverride
  split
  · rfl
  · rw [dif_pos (by omega)]
    exact congrArg (fun k => some (some k)) (Fin.ext (Nat.mod_eq_of_lt (by omega)).symm)

/-- Every field of a table 0 entry names a member. -/
def NamedBayCfg (e : List Byte) : Prop :=
  (byteAt e 0 < 192 ∨ 254 ≤ byteAt e 0) ∧ byteAt e 1 < 4 ∧ byteAt e 2 < 2 ∧ (byteAt e 3 < 8 ∨ byteAt e 3 = 255) ∧
    byteAt e 4 < 2 ∧ byteAt e 5 < 32

/-- The table 0 entry that bytes spell. -/
def bayCfgOf (e : List Byte) : BayCfg :=
  { slot := if byteAt e 0 < 192 then .slot (byteAt e 0) else if byteAt e 0 = 254 then .unmapped else .byPosition
    zone := Fin.ofNat 4 (byteAt e 1)
    policy := if byteAt e 2 = 1 then .auto else .manual
    override := if byteAt e 3 = 255 then none else some (Fin.ofNat 8 (byteAt e 3))
    cut := decide (byteAt e 4 = 1)
    mask :=
      ⟨(byteAt e 5).testBit 0, (byteAt e 5).testBit 1, (byteAt e 5).testBit 2, (byteAt e 5).testBit 3,
        (byteAt e 5).testBit 4⟩ }

theorem decodeBayCfg_eq {e : List Byte} (h : NamedBayCfg e) : decodeBayCfg e = some (bayCfgOf e) := by
  obtain ⟨hs, hz, hp, ho, hc, hm⟩ := h
  have mask : decodeAttn (byteAt e 5) = some (bayCfgOf e).mask := if_pos hm
  simp only [decodeBayCfg, decodeSlot_eq hs (byteAt_lt e 0), decodeZone_eq hz, decodeFlag_eq hp, decodeOverride_eq ho,
    decodeFlag_eq hc, mask, decide_eq_true_eq, bayCfgOf]

theorem decodeBayCfg_beyond {e : List Byte} (h : ¬NamedBayCfg e) : decodeBayCfg e = none := by
  unfold decodeBayCfg
  split
  · next hs hz hp ho hc hm =>
    refine absurd ⟨?_, ?_, ?_, ?_, ?_, ?_⟩ h
    · by_contra hn
      simp [decodeSlot_beyond hn] at hs
    · by_contra hn
      simp [decodeZone_beyond (n := byteAt e 1) (by omega)] at hz
    · by_contra hn
      simp [decodeFlag_beyond (n := byteAt e 2) (by omega)] at hp
    · by_contra hn
      simp [decodeOverride_refuses (n := byteAt e 3) (by omega) (by omega)] at ho
    · by_contra hn
      simp [decodeFlag_beyond (n := byteAt e 4) (by omega)] at hc
    · by_contra hn
      simp [decodeAttn_beyond (n := byteAt e 5) (by omega)] at hm
  · rfl

/-- The slot of a field, written to bay b, belongs to another bay (R5, R179). -/
def SlotTaken (s : State) (b : BayIx) (f : SlotField) : Prop :=
  s.populated b = true ∧
    ∃ d : BayIx, d ≠ b ∧ (s.loop.slotMap.get d).isSome = true ∧ s.loop.slotMap.get d = fieldSlot s b f

theorem duplicates_iff (s : State) (b : BayIx) (f : SlotField) : duplicates s b f = true ↔ SlotTaken s b f := by
  simp only [duplicates, SlotTaken, Bool.and_eq_true, List.any_eq_true, decide_eq_true_eq, and_assoc]
  constructor
  · rintro ⟨hp, hf, d, -, hd, he⟩
    exact ⟨hp, d, hd, he ▸ hf, he⟩
  · rintro ⟨hp, d, hd, hs, he⟩
    exact ⟨hp, he ▸ hs, d, mem_allBays d, hd, he⟩

/-! ### The write, by the fields it changes -/

/-- The entry stored, and the map resolved again where the slot is new. -/
def withBayCfg (b : BayIx) (c : BayCfg) (s : State) : State :=
  if c.slot = (s.bayCfg b).slot then s.setBayCfg b c else resolveMap (s.setBayCfg b c)

/-- What the store leaves alone. -/
theorem withBayCfg_rest (b : BayIx) (c : BayCfg) (s : State) :
    withBayCfg b c s = { s.setBayCfg b c with loop := (withBayCfg b c s).loop } := by
  unfold withBayCfg
  split <;> rfl

/-- The store with the attempt that a new zone of a QUEUED bay owes. -/
def zoneWritten (b : BayIx) (c : BayCfg) (s : State) : Work :=
  if c.zone ≠ (s.bayCfg b).zone ∧ (s.bay b).state = .queued then (Work.start (withBayCfg b c s)).owe
  else Work.start (withBayCfg b c s)

/-- The same with the desire of a new policy evaluated. -/
def policyWritten (b : BayIx) (c : BayCfg) (s : State) : Work :=
  if c.policy = (s.bayCfg b).policy then zoneWritten b c s else evaluate b (zoneWritten b c s)

/-- The same with the class of a new override resolved. -/
def overrideWritten (b : BayIx) (c : BayCfg) (s : State) : Work :=
  if c.override = (s.bayCfg b).override then policyWritten b c s else reresolve b (policyWritten b c s)

theorem zoneWritten_st (b : BayIx) (c : BayCfg) (s : State) : (zoneWritten b c s).st = withBayCfg b c s := by
  unfold zoneWritten
  split <;> rfl

theorem withBayCfg_bay (b : BayIx) (c : BayCfg) (s : State) (d : BayIx) : (withBayCfg b c s).bay d = s.bay d := by
  rw [withBayCfg_rest]
  rfl

/-- The part of a table 0 write that follows the store. -/
def bayCfgChanges (b : BayIx) (old c : BayCfg) (w : Work) : Work :=
  if w.st.populated b then
    let w := if old.zone ≠ c.zone ∧ (w.st.bay b).state = .queued then w.owe else w
    let w := if old.policy ≠ c.policy then evaluate b w else w
    if old.override ≠ c.override then reresolve b w else w
  else w

theorem writeBayCfg_eq (b : BayIx) (c : BayCfg) (s : State) :
    writeBayCfg b c (Work.start s) = bayCfgChanges b (s.bayCfg b) c (Work.start (withBayCfg b c s)) := by
  have body : writeBayCfg b c (Work.start s) = bayCfgChanges b (s.bayCfg b) c
      (if (s.bayCfg b).slot ≠ c.slot then Work.start (resolveMap (s.setBayCfg b c)) else Work.start (s.setBayCfg b c)) :=
    rfl
  rw [body, withBayCfg, ite_not, apply_ite Work.start]
  simp only [eq_comm]

theorem writeBayCfg_absent {b : BayIx} {s : State} (h : s.populated b = false) (c : BayCfg) :
    writeBayCfg b c (Work.start s) = Work.start (withBayCfg b c s) := by
  have pop : (Work.start (withBayCfg b c s)).st.populated b = false := by
    rw [Work.st_start, withBayCfg_rest]
    exact h
  rw [writeBayCfg_eq, bayCfgChanges, if_neg (Bool.eq_false_iff.mp pop)]

theorem writeBayCfg_populated {b : BayIx} {s : State} (h : s.populated b = true) (c : BayCfg) :
    writeBayCfg b c (Work.start s) = overrideWritten b c s := by
  have pop : (Work.start (withBayCfg b c s)).st.populated b = true := by
    rw [Work.st_start, withBayCfg_rest]
    exact h
  have zone : (if (s.bayCfg b).zone ≠ c.zone ∧ ((Work.start (withBayCfg b c s)).st.bay b).state = .queued then
      (Work.start (withBayCfg b c s)).owe else Work.start (withBayCfg b c s)) = zoneWritten b c s := by
    simp only [zoneWritten, Work.st_start, withBayCfg_bay, ne_eq, eq_comm]
  rw [writeBayCfg_eq, bayCfgChanges, if_pos pop, zone]
  simp only [overrideWritten, policyWritten, ne_eq, ite_not, eq_comm (a := (s.bayCfg b).policy),
    eq_comm (a := (s.bayCfg b).override)]

/-! ### The event of the write, one field changed -/

theorem withBayCfg_committed (b : BayIx) (c : BayCfg) (s : State) : (withBayCfg b c s).committed = s.committed := by
  rw [withBayCfg_rest]
  exact State.committed_same rfl rfl

theorem withBayCfg_acct (b : BayIx) (c : BayCfg) (s : State) : (withBayCfg b c s).acct = s.acct := by
  rw [withBayCfg_rest]
  rfl

theorem withBayCfg_zones (b : BayIx) (c : BayCfg) (s : State) : (withBayCfg b c s).cool.zones = s.cool.zones := by
  rw [withBayCfg_rest]
  rfl

theorem finish_withBayCfg (b : BayIx) (c : BayCfg) (s : State) :
    (Work.start (withBayCfg b c s)).finish s = withBayCfg b c s :=
  Work.finish_start_alike (withBayCfg_committed b c s) (withBayCfg_acct b c s) (withBayCfg_zones b c s)

theorem zoneWritten_still {b : BayIx} {c : BayCfg} {s : State}
    (h : c.zone = (s.bayCfg b).zone ∨ (s.bay b).state ≠ .queued) :
    zoneWritten b c s = Work.start (withBayCfg b c s) :=
  if_neg fun ⟨hz, hq⟩ => h.elim hz fun hn => hn hq

section Single

variable {b : BayIx} {c : BayCfg} {s : State} (hb : s.populated b = true)

include hb

theorem event_writeBayCfg_zone (hp : c.policy = (s.bayCfg b).policy) (ho : c.override = (s.bayCfg b).override) :
    event (writeBayCfg b c) s =
      if c.zone ≠ (s.bayCfg b).zone ∧ (s.bay b).state = .queued then attempt (withBayCfg b c s)
      else withBayCfg b c s := by
  have e : writeBayCfg b c (Work.start s) = zoneWritten b c s := by
    rw [writeBayCfg_populated hb, overrideWritten, if_pos ho, policyWritten, if_pos hp]
  rw [event, e, zoneWritten]
  simp only [apply_ite (Work.finish s), Work.finish_owe, finish_withBayCfg]

theorem event_writeBayCfg_policy (hz : c.zone = (s.bayCfg b).zone ∨ (s.bay b).state ≠ .queued)
    (hp : c.policy ≠ (s.bayCfg b).policy) (ho : c.override = (s.bayCfg b).override) :
    event (writeBayCfg b c) s = obeyed (withBayCfg b c s) b (s.bay b) := by
  rw [event, writeBayCfg_populated hb, overrideWritten, if_pos ho, policyWritten, if_neg hp, zoneWritten_still hz,
    finish_evaluate (withBayCfg_committed b c s) (withBayCfg_acct b c s) (withBayCfg_zones b c s), withBayCfg_bay]

theorem event_writeBayCfg_override (hz : c.zone = (s.bayCfg b).zone ∨ (s.bay b).state ≠ .queued)
    (hp : c.policy = (s.bayCfg b).policy) (ho : c.override ≠ (s.bayCfg b).override) :
    event (writeBayCfg b c) s = resolvedAgain (withBayCfg b c s) b := by
  rw [event, writeBayCfg_populated hb, overrideWritten, if_neg ho, policyWritten, if_pos hp, zoneWritten_still hz,
    finish_reresolve (withBayCfg_committed b c s) (withBayCfg_acct b c s) (withBayCfg_zones b c s)]

end Single

theorem event_writeBayCfg_absent {b : BayIx} {s : State} (h : s.populated b = false) (c : BayCfg) :
    event (writeBayCfg b c) s = withBayCfg b c s := by
  rw [event, writeBayCfg_absent h, finish_withBayCfg]

/-! ### The event of the write, several fields changed -/

/-- What an operation on bays leaves of what the evaluation of a desire and the resolution of a class look at. -/
theorem BaysOnly.settings {w w' : Work} (h : BaysOnly w w') :
    w'.st.budgetLimit = w.st.budgetLimit ∧ w'.st.driveClass = w.st.driveClass ∧
      w'.st.sup.drainSetting = w.st.sup.drainSetting ∧ w'.st.bayCfg = w.st.bayCfg ∧
      classAnswer w'.st = classAnswer w.st := by
  rw [h.rest]
  exact ⟨rfl, rfl, rfl, rfl, rfl⟩

/-- The record after a new policy has been taken. -/
def actedBay (b : BayIx) (c : BayCfg) (s : State) : Bay :=
  if c.policy = (s.bayCfg b).policy then s.bay b
  else obeyedRecord s.budgetLimit (fun k => (s.driveClass k).surge) s.sup.drainSetting c.policy (s.bay b)

/-- The record after a new override has been taken as well. -/
def rewrittenBay (b : BayIx) (c : BayCfg) (s : State) : Bay :=
  if c.override = (s.bayCfg b).override then actedBay b c s
  else reclassedRecord s.budgetLimit (fun k => (s.driveClass k).surge)
    (obeyedRecord s.budgetLimit (fun k => (s.driveClass k).surge) s.sup.drainSetting c.policy)
    (classAnswer (withBayCfg b c s) b (s.bay b).carrier) (actedBay b c s)

theorem zoneWritten_edits (b : BayIx) (c : BayCfg) (s : State) :
    Edits b (Work.start (withBayCfg b c s)) (zoneWritten b c s) := by
  unfold zoneWritten
  split
  · exact .owe _
  · exact .refl ..

theorem policyWritten_edits (b : BayIx) (c : BayCfg) (s : State) :
    Edits b (Work.start (withBayCfg b c s)) (policyWritten b c s) := by
  unfold policyWritten
  split
  · exact zoneWritten_edits ..
  · exact (zoneWritten_edits ..).trans (.evaluate _)

theorem overrideWritten_edits (b : BayIx) (c : BayCfg) (s : State) :
    Edits b (Work.start (withBayCfg b c s)) (overrideWritten b c s) := by
  unfold overrideWritten
  split
  · exact policyWritten_edits ..
  · exact (policyWritten_edits ..).trans (.reresolve _)

theorem withBayCfg_settings (b : BayIx) (c : BayCfg) (s : State) :
    (withBayCfg b c s).budgetLimit = s.budgetLimit ∧ (withBayCfg b c s).driveClass = s.driveClass ∧
      (withBayCfg b c s).sup.drainSetting = s.sup.drainSetting ∧ (withBayCfg b c s).bayCfg b = c := by
  rw [withBayCfg_rest]
  exact ⟨rfl, rfl, rfl, State.bayCfg_setBayCfg_same ..⟩

theorem policyWritten_bay (b : BayIx) (c : BayCfg) (s : State) : (policyWritten b c s).st.bay b = actedBay b c s := by
  obtain ⟨hl, hk, hd, hc⟩ := withBayCfg_settings b c s
  unfold policyWritten actedBay
  split
  · rw [zoneWritten_st, withBayCfg_bay]
  · rw [evaluate_bay_same, zoneWritten_st, withBayCfg_bay, hl, hk, hd, hc]

theorem obeyedRecord_carrier (limit : Int) (surge : ClassIx → Nat) (interval : Nat) (policy : Policy) (x : Bay) :
    (obeyedRecord limit surge interval policy x).carrier = x.carrier := by
  unfold obeyedRecord
  cases hst : x.state with
  | idle =>
    cases hc : x.cls with
    | blank | unresolved => rfl
    | cls c =>
      dsimp only
      split
      · split <;> rfl
      · rfl
  | queued | surge | run =>
    dsimp only
    split <;> rfl
  | empty | settling | drain | fault => rfl

theorem actedBay_carrier (b : BayIx) (c : BayCfg) (s : State) : (actedBay b c s).carrier = (s.bay b).carrier := by
  unfold actedBay
  split
  · rfl
  · exact obeyedRecord_carrier ..

theorem overrideWritten_bay (b : BayIx) (c : BayCfg) (s : State) :
    (overrideWritten b c s).st.bay b = rewrittenBay b c s := by
  obtain ⟨hl, hk, hd, hc⟩ := withBayCfg_settings b c s
  obtain ⟨el, ek, ed, ec, ea⟩ := (policyWritten_edits b c s).frame.settings
  simp only [Work.st_start] at el ek ed ec ea
  unfold overrideWritten rewrittenBay
  split
  · exact policyWritten_bay ..
  · rw [reresolve_bay_same, policyWritten_bay, el, ek, ed, ec, ea, hl, hk, hd, hc, actedBay_carrier]

end Sys2Proof.Machine
end

section
/-! PROOFS. A TABLE PUT to table 0 that changes several fields: one event with one attempt (R6, R49, R178). -/

namespace Sys2Proof.Machine

open Sys2Proof.Safety

theorem evaluated_evaluated (x : Bay) : evaluated (evaluated x) = evaluated x := by
  cases h : (decide (x.mgmtIntent = .none) && decide (x.loopIntent = .onExpedite)) <;> simp [evaluated, h]

/-! ### Which records an evaluation or a class resolved again leaves alone -/

section Records

variable {limit : Int} {surge : ClassIx → Nat} {interval : Nat} {policy : Policy} {x : Bay}

theorem obeyedRecord_wants (q : Policy) : wants q (obeyedRecord limit surge interval policy x) = wants q x := by
  unfold obeyedRecord
  cases hst : x.state with
  | idle =>
    cases hc : x.cls with
    | blank | unresolved => rfl
    | cls c =>
      dsimp only
      split
      · split <;> rfl
      · rfl
  | queued | surge | run =>
    dsimp only
    split <;> rfl
  | empty | settling | drain | fault => rfl

theorem obeyedRecord_unpowered (h : x.powered = false) : (obeyedRecord limit surge interval policy x).powered = false := by
  rw [Bay.unpowered_iff] at h ⊢
  unfold obeyedRecord
  cases hst : x.state with
  | idle =>
    cases hc : x.cls with
    | blank | unresolved => simp [evaluated, hst]
    | cls c =>
      dsimp only
      split
      · split <;> simp [faulted]
      · simp [evaluated, hst]
  | queued =>
    dsimp only
    split <;> simp
  | surge | run => simp [hst] at h
  | empty | settling | drain | fault => simp [evaluated, hst]

/-- A powered bay comes neither to IDLE nor to QUEUED by its desire. -/
theorem obeyedRecord_powered (h : x.powered = true) :
    (obeyedRecord limit surge interval policy x).state ≠ .idle ∧
      (obeyedRecord limit surge interval policy x).state ≠ .queued := by
  rw [Bay.powered_iff] at h
  refine ⟨fun hi => ?_, fun hq => ?_⟩
  · rcases obeyedRecord_idle hi with ⟨hx, -⟩ | ⟨hx, -⟩ <;> simp [hx] at h
  · rcases (obeyedRecord_queued hq).1 with hx | hx <;> simp [hx] at h

theorem reclassedRecord_still {act : Bay → Bay} {answer : CarrierEntry} (hi : x.state ≠ .idle) (hq : x.state ≠ .queued) :
    reclassedRecord limit surge act answer x = x := by
  unfold reclassedRecord
  cases hst : x.state <;> simp_all

end Records

/-! ### The standing after the write -/

section Several

variable (b : BayIx) (c : BayCfg) (s : State)

theorem actedBay_unpowered (h : (s.bay b).powered = false) : (actedBay b c s).powered = false := by
  unfold actedBay
  split
  · exact h
  · exact obeyedRecord_unpowered h

theorem rewrittenBay_powered (h : (s.bay b).powered = true) :
    rewrittenBay b c s = actedBay b c s ∨ actedBay b c s = s.bay b := by
  unfold rewrittenBay
  split
  · exact .inl rfl
  · by_cases hp : c.policy = (s.bayCfg b).policy
    · exact .inr (if_pos hp)
    · have e : actedBay b c s = _ := if_neg hp
      obtain ⟨hi, hq⟩ := obeyedRecord_powered (limit := s.budgetLimit) (surge := fun k => (s.driveClass k).surge)
        (interval := s.sup.drainSetting) (policy := c.policy) h
      rw [← e] at hi hq
      exact .inl (reclassedRecord_still hi hq)

/-- A bay that its own policy and override bring into the queue came there by one of the two alone. -/
theorem rewrittenBay_queued (h : (rewrittenBay b c s).state = .queued) :
    (actedBay b c s).state = .queued ∨
      ((actedBay b c s).state = .idle ∧ (s.bay b).state = .idle ∧
        (evaluated (actedBay b c s)).expedite = (evaluated (s.bay b)).expedite) := by
  unfold rewrittenBay at h
  split at h
  · exact .inl h
  · rcases reclassedRecord_queued h with hq | ⟨hi, hw⟩
    · exact .inl hq
    · refine .inr ⟨hi, ?_⟩
      unfold actedBay at hi hw ⊢
      split at hi
      · next hp =>
        rw [if_pos hp]
        exact ⟨hi, rfl⟩
      · next hp =>
        rw [if_neg hp] at hw ⊢
        rcases obeyedRecord_idle hi with ⟨hx, he⟩ | ⟨-, hn⟩
        · rw [he]
          exact ⟨hx, by rw [evaluated_evaluated]⟩
        · rw [obeyedRecord_wants, hn] at hw
          cases hw

/-- Where the bay stands before the write. -/
def standing : Place := if (s.bay b).state = .queued then .kept else .out

variable {b s}

theorem zoneWritten_stands (hm : b ∈ s.sched.queue ↔ (s.bay b).state = .queued) :
    Stands b (zoneWritten b c s) (standing b s) := by
  have start := stands_start (s := withBayCfg b c s) (b := b)
  rw [withBayCfg_bay] at start
  have start := start (by rw [withBayCfg_rest]; exact hm)
  unfold zoneWritten
  split
  · exact start.owe
  · exact start

theorem policyWritten_moved :
    Moved (decide (c.policy ≠ (s.bayCfg b).policy)) b (zoneWritten b c s) (policyWritten b c s) := by
  unfold policyWritten
  by_cases hp : c.policy = (s.bayCfg b).policy
  · rw [if_pos hp, decide_eq_false (not_not_intro hp)]
    exact Moved.refl ..
  · rw [if_neg hp, decide_eq_true hp]
    exact evaluate_moved rfl

theorem overrideWritten_moved :
    Moved (decide (c.policy ≠ (s.bayCfg b).policy)) b (zoneWritten b c s) (overrideWritten b c s) := by
  have hx : (zoneWritten b c s).st.bay b = s.bay b := by rw [zoneWritten_st, withBayCfg_bay]
  refine (policyWritten_moved c).trans hx (policyWritten_bay ..) (overrideWritten_bay ..) ?_ (rewrittenBay_queued b c s)
    (actedBay_unpowered b c s) (rewrittenBay_powered b c s)
  unfold overrideWritten
  split
  · exact Moved.refl ..
  · exact reresolve_moved rfl

end Several

/-! ### The attempt that the write owes -/

theorem enterFault_owed (b : BayIx) (k : FaultCause) (w : Work) : (enterFault b k w).owed = w.owed := by
  unfold enterFault
  dsimp only
  split <;> rfl

theorem enterQueued_owed (b : BayIx) (w : Work) : (enterQueued b w).owed = w.owed := by
  unfold enterQueued
  dsimp only
  split <;> rfl

/-- An evaluation owes an attempt where it takes a QUEUED bay out of the queue (R47). -/
theorem evaluate_owed {b : BayIx} {w : Work} {x : Bay} (hx : w.st.bay b = x) :
    (evaluate b w).owed = true ↔ w.owed = true ∨ (x.state = .queued ∧ wants (w.st.bayCfg b).policy x = false) := by
  cases hst : x.state with
  | empty | settling | drain | fault =>
    rw [evaluate_unpowered_still (s := w.st) rfl hx (by simp [hst])]
    simp [Work.setBay, Work.map]
  | surge | run =>
    rw [evaluate_powered (s := w.st) rfl hx (by simp [hst])]
    split <;> simp [Work.setBay, Work.map, removePower_eq]
  | queued =>
    rw [evaluate_queued (s := w.st) rfl hx hst]
    split
    · next h => split <;> simp [h, Work.setBay, Work.map, Work.enterHead]
    · next h => simp [h, Work.withdraw]
  | idle =>
    cases hc : x.cls with
    | blank | unresolved =>
      rw [evaluate_idle_noClass (s := w.st) rfl hx hst (by simp [hc])]
      simp [Work.setBay, Work.map]
    | cls k =>
      rw [evaluate_idle_cls (s := w.st) rfl hx hst hc]
      split
      · split
        · simp [Work.setBay, Work.map]
        · simp [enterQueued_owed, Work.setBay, Work.map]
      · simp [Work.setBay, Work.map]

/-- A class resolved again owes an attempt for a QUEUED bay (R31, R58). -/
theorem reresolve_owed {b : BayIx} {w : Work} {x : Bay} (hx : w.st.bay b = x) :
    (reresolve b w).owed = true ↔ w.owed = true ∨ x.state = .queued := by
  unfold reresolve
  rw [hx]
  dsimp only
  cases hst : x.state with
  | idle =>
    dsimp only
    split
    · simp [enterFault_owed, Work.setBay, Work.map]
    · simp [Work.setBay, Work.map]
    · next k _ =>
      rw [evaluate_owed (x := { x with cls := .cls k, state := .idle }) (by simp)]
      simp [Work.setBay, Work.map]
  | queued =>
    dsimp only
    split
    · simp [enterFault_owed, Work.withdraw]
    · rw [evaluate_owed (x := { x with cls := .blank, state := .idle }) (by simp)]
      simp [Work.withdraw]
    · split
      · simp [enterFault_owed, Work.withdraw]
      · simp [Work.owe]
  | empty | settling | surge | run | drain | fault => simp

/-! ### The event -/

section Event

variable (b : BayIx) (c : BayCfg) (s : State)

/-- The write brings or moves the bay to the head of the queue. -/
def ToHead : Prop :=
  (rewrittenBay b c s).state = .queued ∧ (evaluated (s.bay b)).expedite = true ∧
    ((s.bay b).state = .idle ∨ c.policy ≠ (s.bayCfg b).policy)

/-- The bay's standing after the write. -/
def newPlace : Place :=
  placed (decide (c.policy ≠ (s.bayCfg b).policy)) (s.bay b) (rewrittenBay b c s) (standing b s)

variable {b c s}

theorem newPlace_head (h : ToHead b c s) : newPlace b c s = .head :=
  placed_head h.1 h.2.1 (h.2.2.imp_right decide_eq_true)

theorem newPlace_left (h : (rewrittenBay b c s).state ≠ .queued) : newPlace b c s = .out := placed_out h

theorem newPlace_kept (h : ¬ToHead b c s) (hz : (rewrittenBay b c s).state = .queued) (hx : (s.bay b).state = .queued) :
    newPlace b c s = .kept := by
  rw [newPlace, placed_stays hz hx, standing, if_pos hx]
  exact fun he => decide_eq_false fun hp => h ⟨hz, he, .inr hp⟩

theorem newPlace_tail (h : ¬ToHead b c s) (hz : (rewrittenBay b c s).state = .queued) (hx : (s.bay b).state ≠ .queued) :
    newPlace b c s = .tail := by
  have none : ¬((evaluated (s.bay b)).expedite = true ∧
      ((s.bay b).state = .idle ∨ decide (c.policy ≠ (s.bayCfg b).policy) = true)) :=
    fun ⟨he, hi⟩ => h ⟨hz, he, hi.imp_right of_decide_eq_true⟩
  rw [newPlace, placed, if_neg (not_not_intro hz), if_neg none, if_neg hx]

/-- The write asks for an entry where it moves the bay to the head or brings it into the queue. -/
theorem newPlace_asks :
    (newPlace b c s).Asks ↔
      ToHead b c s ∨ ((rewrittenBay b c s).state = .queued ∧ (s.bay b).state ≠ .queued) := by
  by_cases h : ToHead b c s
  · simp [newPlace_head h, Place.Asks, h]
  · by_cases hz : (rewrittenBay b c s).state = .queued
    · by_cases hx : (s.bay b).state = .queued
      · simp [newPlace_kept h hz hx, Place.Asks, h, hx]
      · simp [newPlace_tail h hz hx, Place.Asks, hz, hx]
    · simp [newPlace_left hz, Place.Asks, h, hz]

/-- The attempts that the operations of the write owe by themselves. -/
theorem overrideWritten_owed :
    (overrideWritten b c s).owed = true ↔
      (c.zone ≠ (s.bayCfg b).zone ∧ (s.bay b).state = .queued) ∨
        (c.policy ≠ (s.bayCfg b).policy ∧ (s.bay b).state = .queued ∧ wants c.policy (s.bay b) = false) ∨
        (c.override ≠ (s.bayCfg b).override ∧ (actedBay b c s).state = .queued) := by
  have zone : (zoneWritten b c s).owed = true ↔ c.zone ≠ (s.bayCfg b).zone ∧ (s.bay b).state = .queued := by
    unfold zoneWritten
    split
    · next h => exact iff_of_true rfl h
    · next h => exact iff_of_false (by simp [Work.start]) h
  have hx : (zoneWritten b c s).st.bay b = s.bay b := by rw [zoneWritten_st, withBayCfg_bay]
  have hc : (zoneWritten b c s).st.bayCfg b = c := by rw [zoneWritten_st, (withBayCfg_settings b c s).2.2.2]
  have policy : (policyWritten b c s).owed = true ↔
      (c.zone ≠ (s.bayCfg b).zone ∧ (s.bay b).state = .queued) ∨
        (c.policy ≠ (s.bayCfg b).policy ∧ (s.bay b).state = .queued ∧ wants c.policy (s.bay b) = false) := by
    unfold policyWritten
    split
    · next hp => simp [zone, hp]
    · next hp => rw [evaluate_owed hx, zone, hc]; simp [hp]
  unfold overrideWritten
  split
  · next ho => simp [policy, ho]
  · next ho => rw [reresolve_owed (policyWritten_bay b c s), policy]; simp [ho, or_assoc]

/-- A QUEUED bay leaves the queue by its policy where it no longer wants power, or by its override. -/
theorem rewrittenBay_leaves (hx : (s.bay b).state = .queued) :
    (c.policy ≠ (s.bayCfg b).policy ∧ wants c.policy (s.bay b) = false) ∨
        (c.override ≠ (s.bayCfg b).override ∧ (actedBay b c s).state = .queued) ↔
      (rewrittenBay b c s).state ≠ .queued ∨
        (c.override ≠ (s.bayCfg b).override ∧ (actedBay b c s).state = .queued) := by
  refine or_congr_left' fun hn => ⟨fun ⟨hp, hw⟩ hz => ?_, fun hz => ?_⟩
  · have idle : (actedBay b c s).state = .idle := by
      rw [actedBay, if_neg hp]
      simp [obeyedRecord, hx, hw]
    rcases rewrittenBay_queued b c s hz with hy | ⟨-, hi, -⟩
    · rw [idle] at hy
      cases hy
    · rw [hx] at hi
      cases hi
  · have left : (actedBay b c s).state ≠ .queued := fun hy => by
      by_cases ho : c.override = (s.bayCfg b).override
      · rw [rewrittenBay, if_pos ho] at hz
        exact hz hy
      · exact hn ⟨ho, hy⟩
    have hp : c.policy ≠ (s.bayCfg b).policy := fun hp => by
      rw [actedBay, if_pos hp] at left
      exact left hx
    refine ⟨hp, ?_⟩
    rw [actedBay, if_neg hp] at left
    cases hw : wants c.policy (s.bay b) with
    | false => rfl
    | true => simp [obeyedRecord, hx, hw] at left

/-- Two ways to say when an attempt is owed agree where they do for a QUEUED bay. -/
theorem owed_iff {zone policy off override toHead queued stays fell : Prop}
    (h : queued → (policy ∧ off ∨ override ↔ ¬stays ∨ override)) :
    (zone ∧ queued ∨ policy ∧ queued ∧ off ∨ override) ∨ (toHead ∨ stays ∧ ¬queued) ∨ fell ↔
      zone ∧ queued ∨ override ∨ toHead ∨ ¬(queued ↔ stays) ∨ fell := by
  by_cases hq : queued
  · have h := h hq
    simp only [hq, true_and, and_true, not_true_eq_false, and_false, or_false, true_iff] at h ⊢
    tauto
  · simp only [hq, false_and, and_false, not_false_eq_true, and_true, false_or, false_iff, not_not]
    tauto

/-- A write that several fields change: one event, with the bay in its new place and one attempt (R6, R49). -/
theorem event_writeBayCfg_several (hb : s.populated b = true)
    (hm : b ∈ s.sched.queue ↔ (s.bay b).state = .queued) :
    let v := moved (withBayCfg b c s) b (rewrittenBay b c s)
      (cooled (s.bay b) (rewrittenBay b c s) ((withBayCfg b c s).temp b)) (newPlace b c s)
    let owed := (c.zone ≠ (s.bayCfg b).zone ∧ (s.bay b).state = .queued) ∨
      (c.override ≠ (s.bayCfg b).override ∧ (actedBay b c s).state = .queued) ∨ ToHead b c s ∨
      ¬((s.bay b).state = .queued ↔ (rewrittenBay b c s).state = .queued) ∨ v.committed < s.committed
    (owed → event (writeBayCfg b c) s = attempt v) ∧ (¬owed → event (writeBayCfg b c) s = v) := by
  intro v owed
  have hx : (zoneWritten b c s).st.bay b = s.bay b := by rw [zoneWritten_st, withBayCfg_bay]
  obtain ⟨hs, ht⟩ := overrideWritten_moved (b := b) c (s := s)
  have hs := hs _ (zoneWritten_stands c hm) fun h => if_neg (by rwa [hx] at h)
  rw [hx, overrideWritten_bay] at hs ht
  rw [zoneWritten_st] at ht
  have ends := finish_moved (s := s) (overrideWritten_edits b c s) hs (withBayCfg_acct b c s) (withBayCfg_zones b c s)
  rw [overrideWritten_bay, ht] at ends
  have same : (overrideWritten b c s).owed = true ∨ (newPlace b c s).Asks ∨ v.committed < s.committed ↔ owed := by
    rw [overrideWritten_owed, newPlace_asks]
    exact owed_iff rewrittenBay_leaves
  rw [event, writeBayCfg_populated hb]
  exact ⟨fun h => ends.1 (same.mpr h), fun h => ends.2 (mt same.mp h)⟩

end Event

end Sys2Proof.Machine
end

section
/-! PROOFS. TABLE PUT to tables 0, 1, 6, 7 and 8 (R5 to R7, R31, R88, R89, R105, R117, R119, R178, R179). -/

namespace Sys2Proof.Machine

open Sys2Proof.Safety

/-- The queue after the write, as the statement writes it. -/
theorem newPlace_queue {b : BayIx} {c : BayCfg} {s : State} {toHead : Prop} [Decidable toHead]
    (hh : toHead ↔ ToHead b c s) :
    (newPlace b c s).queue b s.sched.queue =
      if toHead then b :: s.sched.queue.filter (· ≠ b)
      else if (rewrittenBay b c s).state ≠ .queued then s.sched.queue.filter (· ≠ b)
      else if (s.bay b).state = .queued then s.sched.queue
      else s.sched.queue.filter (· ≠ b) ++ [b] := by
  by_cases h : toHead
  · rw [if_pos h, newPlace_head (hh.mp h)]
    rfl
  · have h' := mt hh.mpr h
    rw [if_neg h]
    by_cases hz : (rewrittenBay b c s).state = .queued
    · rw [if_neg (not_not_intro hz)]
      by_cases hx : (s.bay b).state = .queued
      · rw [if_pos hx, newPlace_kept h' hz hx]
        rfl
      · rw [if_neg hx, newPlace_tail h' hz hx]
        rfl
    · rw [if_pos hz, newPlace_left hz]
      rfl

theorem setTemp_cooled (t : State) (b : BayIx) (x z : Bay) :
    (if x.powered = true ∧ z.state = .drain then t.setTemp b none else t) = t.setTemp b (cooled x z (t.temp b)) := by
  unfold cooled
  split
  · rfl
  · rw [State.setTemp_self]

/-- Settles O46: each table's entry is decoded, and its write is one event: the plain ones by their changes, table 0 by
the fields it changes. -/
theorem tablePutTakesEffect : Obligations.TablePutTakesEffect := by
  intro s dst tag index entry w ht hw hi next refuses stores clears byte word
  have stored : ∀ {clamped : Bool} {f : Work → Work} {u : State} {r : Result},
      putEntry w.table w.pointer entry s = .store clamped f → event f s = u →
      (if clamped then .okClamped else .ok) = r → stores u r :=
    fun hput hu hr => tablePut_stores ht hw hi hput hu hr tag
  have refused : ∀ {r : Result}, putEntry w.table w.pointer entry s = .refuse r → refuses r :=
    fun hput => tablePut_refuses ht hw hi hput tag
  refine ⟨?_, ?_, ?_, ?_, ?_⟩
  · intro b htab hptr named c old x u taken
    have put : putEntry w.table w.pointer entry s = putBayCfg b entry s := by
      rw [htab, hptr]
      show putBayCfg (Fin.ofNat 24 b.val) entry s = _
      rw [fin_ofNat_val]
    have writes : named → ¬taken → putEntry w.table w.pointer entry s = .store false (writeBayCfg b c) := fun hn ht => by
      have free : ¬duplicates s b (bayCfgOf entry).slot = true := mt (duplicates_iff ..).mp ht
      rw [put, putBayCfg, decodeBayCfg_eq hn]
      exact if_neg free
    refine ⟨fun h => refused ?_, fun hn ht => refused ?_, fun hn hfree => ⟨fun hb => ?_, fun hb => ⟨?_, ?_, ?_, ?_⟩⟩⟩
    · rw [put, putBayCfg, decodeBayCfg_beyond h]
    · have dup : duplicates s b (bayCfgOf entry).slot = true := (duplicates_iff ..).mpr ht
      rw [put, putBayCfg, decodeBayCfg_eq hn]
      exact if_pos dup
    · exact stored (writes hn hfree) (event_writeBayCfg_absent hb c) rfl
    · exact fun hp ho => stored (writes hn hfree) (event_writeBayCfg_zone hb hp ho) rfl
    · exact fun hz hp ho => stored (writes hn hfree) (event_writeBayCfg_policy hb hz hp ho) rfl
    · exact fun hz hp ho => stored (writes hn hfree) (event_writeBayCfg_override hb hz hp ho) rfl
    · intro hm act y z head q t v owed
      have e := event_writeBayCfg_several (c := c) hb (hm.2 b)
      have hv : moved (withBayCfg b c s) b (rewrittenBay b c s)
          (cooled (s.bay b) (rewrittenBay b c s) ((withBayCfg b c s).temp b)) (newPlace b c s) = v := by
        have hs : (withBayCfg b c s).sched = s.sched := by
          rw [withBayCfg_rest]
          rfl
        have hq := newPlace_queue (b := b) (c := c) (s := s) (toHead := head) Iff.rfl
        have hc := setTemp_cooled t b x z
        rw [moved, hs, hq]
        show _ = ({ (if x.powered = true ∧ z.state = .drain then t.setTemp b none else t) with sched := _ } : State)
        rw [hc]
        rfl
      rw [hv] at e
      exact ⟨fun ho => stored (writes hn hfree) (e.1 ho) rfl, fun ho => stored (writes hn hfree) (e.2 ho) rfl⟩
  · intro i htab hptr kept
    have put : ∀ x : CarrierEntry, decodeCarrier (byte 0) = some x → stores (kept x) .ok := fun x hx => by
      have hput : putEntry w.table w.pointer entry s = .store false (writeCarrier i x) := by
        rw [htab, hptr]
        show Put.of ((decodeCarrier (byte 0)).map (·, false)) (writeCarrier (Fin.ofNat 16 i.val)) = _
        rw [hx, fin_ofNat_val]
        rfl
      exact stored hput (event_map (State.committed_same rfl rfl) rfl rfl) rfl
    refine ⟨fun c hc => put _ ?_, fun hc => put _ ?_, fun hc => put _ ?_, fun h8 hb hu => refused ?_⟩
    · rw [hc]
      exact decodeCarrier_cls c
    · rw [hc]
      rfl
    · rw [hc]
      rfl
    · rw [htab]
      show Put.of ((decodeCarrier (byte 0)).map (·, false)) _ = _
      rw [decodeCarrier_beyond h8 hb hu]
      rfl
  · intro z htab hptr temp c r u
    have hput : putEntry w.table w.pointer entry s =
        .store (decide (clampInt (-80) 255 temp ≠ temp) || decide (min 31 (byte 2) ≠ byte 2)) (writeZoneCfg z c) := by
      rw [htab, hptr]
      show Put.store _ (writeZoneCfg (Fin.ofNat 4 z.val) _) = _
      rw [fin_ofNat_val]
      rfl
    have hr := result_of_clamped (p := -80 ≤ temp ∧ temp ≤ 255 ∧ byte 2 ≤ 31)
      (clamped := decide (clampInt (-80) 255 temp ≠ temp) || decide (min 31 (byte 2) ≠ byte 2)) (by
        simp only [Bool.or_eq_true, decide_eq_true_eq]
        have := clampInt_ne_iff (lo := -80) (hi := 255) (by decide) temp
        omega)
    have e : event (writeZoneCfg z c) s = if holdCleared s u = true then attempt u else u := event_writeZoneCfg z c s
    refine ⟨fun hc => stored hput ?_ hr, fun hc => stored hput ?_ hr⟩
    · rw [e, if_pos ((holdCleared_iff ..).mpr hc)]
    · rw [e, if_neg (mt (holdCleared_iff ..).mp hc)]
  · intro ch htab hptr named c r u
    have writes : named → ∀ v : State, writeSensor ch c s = v → stores v r := fun hn v hv => by
      have hput : putEntry w.table w.pointer entry s =
          .store (decide (min 7 (byte 3) ≠ byte 3)) (·.map (writeSensor ch c)) := by
        rw [htab, hptr]
        show Put.of (decodeSensor entry) (fun c w => w.map (writeSensor (Fin.ofNat 9 ch.val) c)) = _
        rw [decodeSensor_eq hn, fin_ofNat_val]
        rfl
      have alike := writeSensor_scan ch c s
      refine stored hput ?_ (result_of_clamped ?_)
      · rw [← hv]
        exact event_map (State.committed_same (by rw [alike]) (by rw [alike])) (by rw [alike]) (by rw [alike])
      · simp only [decide_eq_true_eq]
        omega
    refine ⟨fun hn => refused ?_, fun hn he hd => writes hn _ ?_, fun hn h => writes hn _ ?_⟩
    · rw [htab]
      show Put.of (decodeSensor entry) _ = _
      rw [decodeSensor_beyond hn]
      rfl
    · rw [writeSensor_eq, if_pos ⟨he, hd⟩]
      rfl
    · rw [writeSensor_eq, if_neg fun ⟨he, hd⟩ => h.elim (ne_true_of_eq_false · he) (ne_false_of_eq_true · hd)]
      rfl
  · intro f htab hptr named c r v failed gains u
    have hput : named → putEntry w.table w.pointer entry s =
        .store (decide (min 1000 (word 2) ≠ word 2) || decide (clampNat 1 4 (byte 7) ≠ byte 7)) (·.map (writeFan f c)) := by
      intro hn
      rw [htab, hptr]
      show Put.of (decodeFan entry) (fun c w => w.map (writeFan (Fin.ofNat 8 f.val) c)) = _
      rw [decodeFan_eq hn, fin_ofNat_val]
      rfl
    have hr := result_of_clamped (p := word 2 ≤ 1000 ∧ 1 ≤ byte 7 ∧ byte 7 ≤ 4)
      (clamped := decide (min 1000 (word 2) ≠ word 2) || decide (clampNat 1 4 (byte 7) ≠ byte 7)) (by
        simp only [Bool.or_eq_true, decide_eq_true_eq]
        have := clampNat_ne_iff (lo := 1) (hi := 4) (by decide) (byte 7)
        omega)
    have hfail : ∀ z, zoneHasFailure (withFan f c s) z = failed z := fun z => by
      rw [Bool.eq_iff_iff, zoneHasFailure_iff, decide_eq_true_eq]
      rfl
    have e := event_writeFan f c s
    rw [spreadFailure_eq hfail] at e
    refine ⟨fun hn => refused ?_, fun hn h => stored (hput hn) (e.trans (if_pos (h.imp_right ?_))) hr,
      fun hn hle hc => stored (hput hn) (e.trans (if_neg ?_)) hr⟩
    · rw [htab]
      show Put.of (decodeFan entry) _ = _
      rw [decodeFan_beyond hn]
      rfl
    · exact (holdCleared_iff ..).mpr
    · rintro (h | h)
      · exact absurd h (Nat.not_lt.mpr hle)
      · exact hc ((holdCleared_iff ..).mp h)

end Sys2Proof.Machine
end

section
/-! PROOFS. The default tables put in place in every block (R93, R128, R183). -/

namespace Sys2Proof.Machine

open Sys2Proof.Safety

/-! ### Sensors restored (R88, R93) -/

/-- Restoring channel ch turns it off. -/
def turnsOff (s : State) (ch : ChannelIx) : Bool := (s.sensor ch).enabled && !(defaultSensor ch).enabled

theorem turnsOff_iff (s : State) (ch : ChannelIx) :
    turnsOff s ch = true ↔ (s.sensor ch).enabled = true ∧ 4 ≤ ch.val ∧ ch.val ≤ 7 := by
  have off : (defaultSensor ch).enabled = false ↔ 4 ≤ ch.val ∧ ch.val ≤ 7 := by
    revert ch
    decide
  simp only [turnsOff, Bool.and_eq_true, Bool.not_eq_true', off]

/-- The channel record after its sensor has been restored. -/
def restoredChannel (s : State) (ch : ChannelIx) : Channel :=
  if turnsOff s ch then { s.channel ch with valid := false } else s.channel ch

/-- A conversion under way after its sensor has been restored. -/
def restoredConversion (s : State) (k : Conversion) : Conversion :=
  if turnsOff s k.channel then { k with cancelled := true } else k

theorem restoredConversion_channel (s : State) (k : Conversion) : (restoredConversion s k).channel = k.channel := by
  unfold restoredConversion
  split <;> rfl

theorem writeSensor_fields (s : State) (ch : ChannelIx) :
    let t := writeSensor ch (defaultSensor ch) s
    (∀ d, t.sensor d = if d = ch then defaultSensor ch else s.sensor d) ∧
      (∀ d, t.channel d = if d = ch then restoredChannel s ch else s.channel d) ∧
      t.scan.converting = s.scan.converting.map fun k => if k.channel = ch then restoredConversion s k else k := by
  have sensor : ∀ d, (withSensor ch (defaultSensor ch) s).sensor d = if d = ch then defaultSensor ch else s.sensor d :=
    fun d => by
      by_cases hd : d = ch
      · subst hd
        simp [withSensor, State.sensor, Vector.get_eq_getElem]
      · have hv : ch.val ≠ d.val := fun e => hd (Fin.ext e.symm)
        simp [withSensor, State.sensor, Vector.get_eq_getElem, hd, hv]
  intro t
  have ht : t = if turnsOff s ch then silenced ch (withSensor ch (defaultSensor ch) s)
      else withSensor ch (defaultSensor ch) s := by
    have e := writeSensor_eq ch (defaultSensor ch) s
    simpa [turnsOff] using e
  cases hoff : turnsOff s ch with
  | true =>
    rw [hoff, if_pos rfl] at ht
    refine ⟨fun d => ht ▸ sensor d, fun d => ?_, ?_⟩
    · have e := State.channel_changed s ch d { s.channel ch with valid := false }
      rw [restoredChannel, hoff, if_pos rfl, ← e, ht]
      rfl
    · rw [ht]
      refine congrArg (s.scan.converting.map ·) (funext fun k => ?_)
      split
      · next hk => rw [restoredConversion, hk, hoff, if_pos rfl]
      · rfl
  | false =>
    have keep : t = withSensor ch (defaultSensor ch) s := by rw [ht, hoff]; rfl
    refine ⟨fun d => keep ▸ sensor d, fun d => ?_, ?_⟩
    · rw [restoredChannel, hoff, keep]
      split
      · next hd => rw [hd]; rfl
      · rfl
    · have same : (fun k : Conversion => if k.channel = ch then restoredConversion s k else k) = id := by
        funext k
        split
        · next hk => rw [restoredConversion, hk, hoff]; rfl
        · rfl
      rw [same, Option.map_id, keep]
      rfl

/-- t is s with the sensors of the channels in l restored. -/
structure SensorsRestored (l : List ChannelIx) (s t : State) : Prop where
  rest : t = { s with scan := { s.scan with
    sensors := t.scan.sensors, channels := t.scan.channels, converting := t.scan.converting } }
  sensor : ∀ ch, t.sensor ch = if ch ∈ l then defaultSensor ch else s.sensor ch
  channel : ∀ ch, t.channel ch = if ch ∈ l then restoredChannel s ch else s.channel ch
  converting : t.scan.converting =
    s.scan.converting.map fun k => if k.channel ∈ l then restoredConversion s k else k

theorem sensorsRestored_foldl {l : List ChannelIx} (hn : l.Nodup) (s : State) :
    SensorsRestored l s (l.foldl (fun s ch => writeSensor ch (defaultSensor ch) s) s) := by
  induction l generalizing s with
  | nil => exact ⟨rfl, fun _ => rfl, fun _ => rfl, by simp⟩
  | cons c l ih =>
    obtain ⟨hc, hn⟩ := List.nodup_cons.mp hn
    obtain ⟨fsensor, fchannel, fconv⟩ := writeSensor_fields s c
    have frest := writeSensor_scan c (defaultSensor c) s
    rw [List.foldl_cons]
    obtain ⟨rest, sensor, channel, conv⟩ := ih hn (writeSensor c (defaultSensor c) s)
    generalize writeSensor c (defaultSensor c) s = t at *
    have off : ∀ ch, ch ≠ c → turnsOff t ch = turnsOff s ch := fun ch h => by simp [turnsOff, fsensor, h]
    refine ⟨?_, fun ch => ?_, fun ch => ?_, ?_⟩
    · rw [rest, frest]
    · rw [sensor, fsensor]
      by_cases h : ch = c
      · subst h
        simp [hc]
      · simp [h]
    · rw [channel, fchannel]
      by_cases h : ch = c
      · subst h
        simp [hc]
      · simp [h, restoredChannel, off, fchannel]
    · rw [conv, fconv, Option.map_map]
      refine congrArg (s.scan.converting.map ·) (funext fun k => ?_)
      by_cases h : k.channel = c
      · simp [h, hc, restoredConversion_channel]
      · simp [h, restoredConversion, off]

theorem allChannels_nodup : allChannels.Nodup := List.nodup_finRange 9

theorem restoreSensors_eq (s : State) :
    restoreSensors s = { s with
      scan :=
        { s.scan with
          sensors := defaultSensors, channels := Vector.ofFn (restoredChannel s)
          converting := s.scan.converting.map (restoredConversion s) } } := by
  have every : ∀ ch : ChannelIx, ch ∈ allChannels := List.mem_finRange
  obtain ⟨rest, sensor, channel, conv⟩ := sensorsRestored_foldl allChannels_nodup s
  rw [restoreSensors]
  generalize allChannels.foldl (fun s ch => writeSensor ch (defaultSensor ch) s) s = t at rest sensor channel conv ⊢
  have sensors : t.scan.sensors = defaultSensors := vector_eq_ofFn fun ch => (sensor ch).trans (if_pos (every ch))
  have channels : t.scan.channels = Vector.ofFn (restoredChannel s) :=
    vector_eq_ofFn fun ch => (channel ch).trans (if_pos (every ch))
  simp only [every, if_true] at conv
  rw [sensors, channels, conv] at rest
  exact rest

/-! ### Fans restored (R119, R128) -/

/-- The fan record that a write of the default entry gives. -/
def rewrittenFan (s : State) (f : FanIx) : Fan :=
  fanRewritten (s.fanCfg f) (defaultFanEntry f) (s.zone (Fin.ofNat 4 f.val)) (s.fan f)

/-- The restored zone has a FAILED fan. -/
def brokenZone (s : State) (z : ZoneIx) : Bool := decide ((rewrittenFan s (Fin.ofNat 8 z.val)).state = .failed)

/-- The fan record after the restoration. -/
def restoredFan (s : State) (f : FanIx) : Fan :=
  if f.val < 4 ∧ (rewrittenFan s f).state = .failed then { rewrittenFan s f with target := 255, applied := 255 }
  else rewrittenFan s f

theorem restoredFan_state (s : State) (f : FanIx) : (restoredFan s f).state = (rewrittenFan s f).state := by
  unfold restoredFan
  split <;> rfl

theorem fanCfg_default {t : State} (h : t.cool.fanCfg = defaultFanCfg) (f : FanIx) : t.fanCfg f = defaultFanEntry f := by
  rw [State.fanCfg, h, defaultFanCfg, Vector.get_eq_getElem, Vector.getElem_ofFn]

/-- By default the zone z is served by the fan z alone. -/
theorem defaultFanEntry_serves (f : FanIx) (z : ZoneIx) :
    (defaultFanEntry f).enabled = true ∧ (defaultFanEntry f).zone = z ↔ f = Fin.ofNat 8 z.val := by
  revert f z
  decide

theorem zoneHasFailure_default {t : State} (h : t.cool.fanCfg = defaultFanCfg) (z : ZoneIx) :
    zoneHasFailure t z = decide ((t.fan (Fin.ofNat 8 z.val)).state = .failed) := by
  rw [Bool.eq_iff_iff, zoneHasFailure_iff, decide_eq_true_eq]
  simp only [fanCfg_default h, ← and_assoc, defaultFanEntry_serves, exists_eq_left]

theorem State.fan_mapFans (g : FanIx → Fan → Fan) (s : State) (f : FanIx) : (mapFans g s).fan f = g f (s.fan f) := by
  simp [mapFans, State.fan, Vector.get_eq_getElem]

/-- The fans rewritten under the default table. -/
def fansRewritten (s : State) : State :=
  { s with cool := { s.cool with fanCfg := defaultFanCfg, fans := Vector.ofFn (rewrittenFan s) } }

theorem fansRewritten_fan (s : State) (f : FanIx) : (fansRewritten s).fan f = rewrittenFan s f := by
  simp [fansRewritten, State.fan, Vector.get_eq_getElem]

/-- An enabled fan of a zone with a FAILED fan at full duty (R128). -/
def raisedFan (s : State) (f : FanIx) (x : Fan) : Fan :=
  if (s.fanCfg f).enabled && zoneHasFailure s (s.fanCfg f).zone then { x with target := 255, applied := 255 } else x

theorem fansRewritten_failure (s : State) (z : ZoneIx) : zoneHasFailure (fansRewritten s) z = brokenZone s z := by
  rw [zoneHasFailure_default rfl, fansRewritten_fan, brokenZone]

theorem raisedFan_eq (s : State) (f : FanIx) :
    raisedFan (fansRewritten s) f ((fansRewritten s).fan f) = restoredFan s f := by
  have enabled : (defaultFanEntry f).enabled = decide (f.val < 4) := rfl
  simp only [raisedFan, fanCfg_default (t := fansRewritten s) rfl, fansRewritten_failure, fansRewritten_fan, restoredFan]
  by_cases h : f.val < 4
  · have h' : (defaultFanEntry f).enabled = true := enabled.trans (decide_eq_true h)
    have broken : brokenZone s (defaultFanEntry f).zone = decide ((rewrittenFan s f).state = .failed) := by
      rw [brokenZone, ← (defaultFanEntry_serves f _).mp ⟨h', rfl⟩]
    simp only [h, h', broken, Bool.true_and, decide_eq_true_eq, true_and]
  · have h' : (defaultFanEntry f).enabled = false := enabled.trans (decide_eq_false h)
    simp [h, h']

theorem restoreFans_eq (s : State) :
    restoreFans s = { s with
      cool :=
        { s.cool with
          fanCfg := defaultFanCfg, fans := Vector.ofFn (restoredFan s)
          zones := Vector.ofFn fun z => { s.zone z with fanFailed := brokenZone s z } } } := by
  have first : rewrittenFan s = fun f =>
      rewriteFan (s.fanCfg f) (defaultFanEntry f) (s.zone (defaultFanEntry f).zone) (s.fan f) :=
    funext fun f => (rewriteFan_eq ..).symm
  have body : restoreFans s = mapZones
      (fun z x => { x with fanFailed := zoneHasFailure (mapFans (raisedFan (fansRewritten s)) (fansRewritten s)) z })
      (mapFans (raisedFan (fansRewritten s)) (fansRewritten s)) := by
    unfold fansRewritten
    rw [first]
    rfl
  have raised : ∀ z, zoneHasFailure (mapFans (raisedFan (fansRewritten s)) (fansRewritten s)) z = brokenZone s z :=
    fun z => by rw [zoneHasFailure_default rfl, State.fan_mapFans, raisedFan_eq, restoredFan_state, brokenZone]
  have zone : ∀ z, (mapFans (raisedFan (fansRewritten s)) (fansRewritten s)).zone z = s.zone z := fun _ => rfl
  rw [body]
  simp only [mapZones, raised, zone]
  simp only [mapFans, raisedFan_eq]
  rfl

end Sys2Proof.Machine
end

section
/-! PROOFS. The state that the restored tables leave before any bay acts on them, block by block (R183). -/

namespace Sys2Proof.Machine

open Sys2Proof.Safety

/-! ### The records judged again under the restored staleness limit (R99) -/

/-- The hot side of a value under the default classes. -/
def defaultHot (s : State) (b : BayIx) : Int → Bool := hotFor (fun c => (defaultClass c).warn) (s.bay b)

/-- The record of a bay, judged again where the staleness limit changes. -/
def rejudgedRecord (s : State) (b : BayIx) : Bay :=
  if s.scan.staleness = 10 then s.bay b else rejudgedBay 10000 (defaultHot s b) (s.temp b) (s.bay b)

/-- The temperature of a bay, judged again where the staleness limit changes. -/
def rejudgedTemp (s : State) (b : BayIx) : Option TempRec :=
  if s.scan.staleness = 10 then s.temp b else (s.temp b).map (rejudged 10000 (defaultHot s b))

/-- Judging again changes the attention flags alone. -/
theorem rejudgedRecord_attn (s : State) (b : BayIx) :
    rejudgedRecord s b = { s.bay b with attn := (rejudgedRecord s b).attn } := by
  unfold rejudgedRecord rejudgedBay
  split
  · rfl
  · split
    · split <;> rfl
    · rfl

/-! ### The defaults in place -/

/-- The defaults of every table in place, with the sensors and the fans as their entries make them. -/
def defaulted (s : State) : State :=
  { restoreValues s with
    scan :=
      { (restoreValues s).scan with
        sensors := defaultSensors, channels := Vector.ofFn (restoredChannel s)
        converting := s.scan.converting.map (restoredConversion s) }
    cool :=
      { (restoreValues s).cool with
        fanCfg := defaultFanCfg, fans := Vector.ofFn (restoredFan s)
        zones := Vector.ofFn fun z => { s.zone z with fanFailed := brokenZone s z } } }

theorem restoredFan_congr {s t : State} (hc : t.cool.fanCfg = s.cool.fanCfg) (hf : t.cool.fans = s.cool.fans)
    (hz : t.cool.zones = s.cool.zones) : restoredFan t = restoredFan s ∧ brokenZone t = brokenZone s := by
  have first : rewrittenFan t = rewrittenFan s := by
    funext f
    simp only [rewrittenFan, State.fanCfg, State.fan, State.zone, hc, hf, hz]
  exact ⟨by funext f; simp only [restoredFan, first], by funext z; simp only [brokenZone, first]⟩

theorem restoredSensors_congr {s t : State} (hs : t.scan.sensors = s.scan.sensors)
    (hc : t.scan.channels = s.scan.channels) :
    restoredChannel t = restoredChannel s ∧ restoredConversion t = restoredConversion s := by
  have first : turnsOff t = turnsOff s := by
    funext ch
    simp only [turnsOff, State.sensor, hs]
  exact ⟨by funext ch; simp only [restoredChannel, State.channel, first, hc],
    by funext k; simp only [restoredConversion, first]⟩

theorem restoreValues_kept (s : State) :
    (restoreValues s).cool.fanCfg = s.cool.fanCfg ∧ (restoreValues s).cool.fans = s.cool.fans ∧
      (restoreValues s).cool.zones = s.cool.zones ∧ (restoreValues s).scan.sensors = s.scan.sensors ∧
      (restoreValues s).scan.channels = s.scan.channels ∧ (restoreValues s).scan.converting = s.scan.converting :=
  ⟨rfl, rfl, rfl, rfl, rfl, rfl⟩

theorem defaulted_eq (s : State) : restoreFans (restoreSensors (restoreValues s)) = defaulted s := by
  obtain ⟨hcfg, hfans, hzones, hsensors, hchannels, hconv⟩ := restoreValues_kept s
  unfold defaulted
  generalize restoreValues s = t at *
  obtain ⟨echannel, econv⟩ := restoredSensors_congr hsensors hchannels
  rw [restoreSensors_eq, echannel, econv, hconv]
  obtain ⟨efan, ebroken⟩ := restoredFan_congr hcfg hfans hzones
  rw [restoreFans_eq]
  have zone : ∀ z, t.zone z = s.zone z := fun z => by simp only [State.zone, hzones]
  rw [← efan, ← ebroken]
  simp only [← zone]
  rfl

theorem driveClass_default {t : State} (h : t.sched.classes = defaultClasses) (c : ClassIx) :
    t.driveClass c = defaultClass c := by
  rw [State.driveClass, h, defaultClasses, Vector.get_eq_getElem, Vector.getElem_ofFn]

/-- The same with the temperatures judged again. -/
def defaultedJudged (s : State) : State :=
  { defaulted s with
    scan := { (defaulted s).scan with temps := Vector.ofFn (rejudgedTemp s) }
    sup := { (defaulted s).sup with bays := Vector.ofFn (rejudgedRecord s) } }

theorem defaulted_kept (s : State) :
    (defaulted s).sup.bays = s.sup.bays ∧ (defaulted s).scan.temps = s.scan.temps ∧
      (defaulted s).sched.classes = defaultClasses ∧ effectiveStaleness (defaulted s).scan.staleness = 10000 := by
  have limit : effectiveStaleness 10 = 10000 := by decide
  unfold defaulted restoreValues
  exact ⟨rfl, rfl, rfl, limit⟩

theorem judged_defaulted (s : State) (b : BayIx) :
    hotSide (defaulted s) b = defaultHot s b ∧
      judgedTemp (defaulted s) b = (s.temp b).map (rejudged 10000 (defaultHot s b)) ∧
      judgedBay (defaulted s) b = rejudgedBay 10000 (defaultHot s b) (s.temp b) (s.bay b) := by
  obtain ⟨hbays, htemps, hclasses, hstale⟩ := defaulted_kept s
  generalize defaulted s = t at *
  have bay : t.bay b = s.bay b := by simp only [State.bay, hbays]
  have temp : t.temp b = s.temp b := by simp only [State.temp, htemps]
  have hot : hotSide t b = defaultHot s b := by
    simp only [hotSide_eq_hotFor, driveClass_default hclasses, bay, defaultHot]
  exact ⟨hot, by rw [judgedTemp, hot, temp, hstale], by rw [judgedBay, hot, temp, bay, hstale]⟩

theorem defaultedJudged_eq (s : State) :
    (if decide (s.scan.staleness ≠ defaultStaleness) then rejudgeAll (defaulted s) else defaulted s) =
      defaultedJudged s := by
  have judged := judged_defaulted s
  obtain ⟨hbays, htemps, -, -⟩ := defaulted_kept s
  unfold defaultedJudged
  generalize defaulted s = t at *
  by_cases h : s.scan.staleness = 10
  · have bays : t.sup.bays = Vector.ofFn (rejudgedRecord s) :=
      hbays.trans (vector_eq_ofFn fun b => (if_pos h).symm)
    have temps : t.scan.temps = Vector.ofFn (rejudgedTemp s) :=
      htemps.trans (vector_eq_ofFn fun b => (if_pos h).symm)
    rw [if_neg (by simp [defaultStaleness, h]), ← bays, ← temps]
  · have bays : judgedBay t = rejudgedRecord s := funext fun b => (judged b).2.2.trans (if_neg h).symm
    have temps : judgedTemp t = rejudgedTemp s := funext fun b => (judged b).2.1.trans (if_neg h).symm
    rw [if_pos (by simp [defaultStaleness, h]), rejudgeAll_eq, bays, temps]

theorem restoreAll_eq (s : State) : restoreAll s = resolveMap (recomputeHolds (handReserve (defaultedJudged s))) := by
  rw [restoreAll, defaulted_eq, defaultedJudged_eq]

end Sys2Proof.Machine
end

section
/-! PROOFS. PART RESET of TABLES scope: the restored tables, and the bays that act on them (R37, R50, R183). -/

namespace Sys2Proof.Machine

open Sys2Proof.Safety

/-! ### The restored state, block by block -/

/-- The zone record after the restoration. -/
def restoredZone (s : State) (z : ZoneIx) : Zone :=
  { s.zone z with
    fanFailed := brokenZone s z
    hold := brokenZone s z || (match (s.zone z).temp with
      | some t => decide (110 ≤ t)
      | none => false) }

theorem defaultedJudged_cool (s : State) :
    (defaultedJudged s).cool =
      { zones := Vector.ofFn fun z => { s.zone z with fanFailed := brokenZone s z }
        zoneCfg := Vector.replicate 4 ⟨110, 8, 200⟩, fans := Vector.ofFn (restoredFan s), fanCfg := defaultFanCfg
        pendingCurves := defaultCurves, activeCurves := defaultCurves, period := 1000, upStep := 8, downStep := 4
        periodEnd := s.cool.periodEnd, periodLength := s.cool.periodLength } := by
  unfold defaultedJudged defaulted restoreValues
  rfl

theorem defaultedJudged_fan (s : State) (f : FanIx) : (defaultedJudged s).fan f = restoredFan s f := by
  simp only [State.fan, defaultedJudged_cool, Vector.get_eq_getElem, Vector.getElem_ofFn]

theorem defaultedJudged_reserve (s : State) :
    reserve (defaultedJudged s) = (allFans.map fun f =>
      if f.val < 4 then
        (if (restoredFan s f).state = .failed then 150 else (150 * (restoredFan s f).applied + 254) / 255)
      else 0).sum := by
  have cfg : (defaultedJudged s).cool.fanCfg = defaultFanCfg := by rw [defaultedJudged_cool]
  have share : fanShare (defaultedJudged s) = fun f =>
      if f.val < 4 then
        (if (restoredFan s f).state = .failed then 150 else (150 * (restoredFan s f).applied + 254) / 255)
      else 0 := by
    funext f
    simp only [fanShare, fanCfg_default cfg, defaultedJudged_fan, defaultFanEntry, decide_eq_true_eq]
  rw [reserve, share]

theorem defaultedJudged_hold (s : State) (z : ZoneIx) :
    { (handReserve (defaultedJudged s)).zone z with hold := holdOf (handReserve (defaultedJudged s)) z } =
      restoredZone s z := by
  have hc : (handReserve (defaultedJudged s)).cool = (defaultedJudged s).cool := rfl
  have cool := hc.trans (defaultedJudged_cool s)
  generalize handReserve (defaultedJudged s) = t at *
  have zone : t.zone z = { s.zone z with fanFailed := brokenZone s z } := by
    simp only [State.zone, cool, Vector.get_eq_getElem, Vector.getElem_ofFn]
  have fan : ∀ f, t.fan f = restoredFan s f := fun f => by
    simp only [State.fan, cool, Vector.get_eq_getElem, Vector.getElem_ofFn]
  have cfg : t.zoneCfg z = ⟨110, 8, 200⟩ := by
    simp only [State.zoneCfg, cool, Vector.get_eq_getElem, Vector.getElem_replicate]
  have broken : zoneHasFailure t z = brokenZone s z := by
    rw [zoneHasFailure_default (by rw [cool]), fan, restoredFan_state, brokenZone]
  rw [holdOf, broken, zone, cfg]
  rfl

theorem restoreAll_blocks (s : State) :
    let r := restoreAll s
    r = { s with
      sup := r.sup, sched := r.sched, acct := r.acct, scan := r.scan, cool := r.cool, ind := r.ind, loop := r.loop } ∧
    r.sup =
      { bays := Vector.ofFn (rejudgedRecord s), cfg := defaultCfg s.rst.straps.policy, carrierMap := defaultCarrierMap
        debounceSetting := 25, drainSetting := 500, attentionEnable := true } ∧
    r.sched = { s.sched with classes := defaultClasses, pendingPace := some ⟨1000, 2⟩ } ∧
    r.acct = { s.acct with
      ceiling := strapCeiling s.rst.straps.ceilingCode, guardBand := 100, margin := 200
      fanReserve := reserve (defaultedJudged s) } ∧
    r.scan = { s.scan with
      channels := Vector.ofFn (restoredChannel s), sensors := defaultSensors, temps := Vector.ofFn (rejudgedTemp s)
      staleness := 10, converting := s.scan.converting.map (restoredConversion s) } ∧
    r.cool = { (defaultedJudged s).cool with zones := Vector.ofFn (restoredZone s) } ∧
    r.ind = { s.ind with
      patterns := defaultPatterns, rules := defaultRules, brightness := 12
      bays := Vector.ofFn fun b => { s.bayLights b with hold := none } } ∧
    r.loop = { s.loop with slotMap := r.loop.slotMap, mapConflict := r.loop.mapConflict, timeout := 20 } := by
  have zones := funext (defaultedJudged_hold s)
  intro r
  have hr : r = resolveMap { handReserve (defaultedJudged s) with
      cool := { (defaultedJudged s).cool with zones := Vector.ofFn (restoredZone s) } } := by
    rw [← zones]
    exact restoreAll_eq s
  rw [hr]
  unfold resolveMap handReserve
  generalize reserve (defaultedJudged s) = n, Vector.ofFn (restoredZone s) = zones
  unfold defaultedJudged defaulted restoreValues
  exact ⟨rfl, rfl, rfl, rfl, rfl, rfl, rfl, rfl⟩

end Sys2Proof.Machine
end

section
/-! PROOFS. The bays that act on restored tables: a sweep of the changed overrides, then one of the changed policies (R37,
R50). -/

namespace Sys2Proof.Machine

open Sys2Proof.Safety

/-! ### A sweep of operations, told for one bay -/

theorem Agree.stands {c : BayIx} {w w' : Work} {p : Place} (h : Agree c w w') (hs : Stands c w p) : Stands c w' p := by
  cases p <;> simpa only [Stands, h.tails, h.heads, h.queue] using hs

theorem Moved.congr {again : Bool} {c : BayIx} {u w w' u' : Work} (h : Moved again c w w') (hw : Agree c u w)
    (hw' : Agree c w' u') : Moved again c u u' := by
  refine ⟨fun p hs hp => ?_, ?_⟩
  · have hq := hw'.stands (h.stands p (hw.stands hs) (by rwa [hw.bay]))
    rwa [hw.bay, ← hw'.bay] at hq
  · rw [hw'.temp, h.temp, hw.bay, hw'.bay, hw.temp]

section Sweep

variable {k : BayIx → Work → Work} (hk : ∀ b w, Edits b w (k b w)) (w : Work) (c : BayIx)

include hk

theorem sweep_bay {y : Bay} (h : ∀ w', BaysOnly w w' → w'.st.bay c = w.st.bay c → (k c w').st.bay c = y) :
    (sweep k allBays w).st.bay c = y := by
  obtain ⟨w', hf, ha, he⟩ := sweep_at hk allBays_nodup (mem_allBays c) w
  exact he.bay.trans (h w' hf ha.bay)

theorem sweep_moved (h : ∀ w', Moved false c w' (k c w')) : Moved false c w (sweep k allBays w) := by
  obtain ⟨w', -, ha, he⟩ := sweep_at hk allBays_nodup (mem_allBays c) w
  exact (h w').congr ha he

end Sweep

/-! ### The two sweeps -/

/-- Bay b resolved again where the restoration changes its override. -/
def restoreOverride (old : State) (b : BayIx) (w : Work) : Work :=
  if w.st.populated b && decide ((old.bayCfg b).override ≠ (w.st.bayCfg b).override) then reresolve b w else w

/-- The desire of bay b evaluated where the restoration changes its policy. -/
def restorePolicy (old : State) (b : BayIx) (w : Work) : Work :=
  if w.st.populated b && decide ((old.bayCfg b).policy ≠ (w.st.bayCfg b).policy) then evaluateRestored b w else w

theorem restoreBays_eq (old : State) (w : Work) :
    restoreBays old w = sweep (restorePolicy old) allBays (sweep (restoreOverride old) allBays w) := rfl

theorem restoreOverride_edits (old : State) (b : BayIx) (w : Work) : Edits b w (restoreOverride old b w) := by
  unfold restoreOverride
  split
  · exact .reresolve w
  · exact .refl b w

theorem restorePolicy_edits (old : State) (b : BayIx) (w : Work) : Edits b w (restorePolicy old b w) := by
  unfold restorePolicy
  split
  · exact .evaluateRestored w
  · exact .refl b w

theorem restoreOverride_moved (old : State) (b : BayIx) (w : Work) : Moved false b w (restoreOverride old b w) := by
  unfold restoreOverride
  split
  · exact reresolve_moved rfl
  · exact .refl b w

theorem restorePolicy_moved (old : State) (b : BayIx) (w : Work) : Moved false b w (restorePolicy old b w) := by
  unfold restorePolicy
  split
  · exact evaluateRestored_moved rfl
  · exact .refl b w

/-! ### The records that they leave -/

section Records

variable (s : State) (b : BayIx)

/-- The budget limit of the strapped ceiling under the default guard. -/
def strapLimit : Int := (strapCeiling s.rst.straps.ceilingCode : Int) - 100

/-- What an evaluated desire makes of a record under the restored tables. -/
def restoredAct : Bay → Bay :=
  obeyedRecord (strapLimit s) (fun c => (defaultClass c).surge) 500 s.rst.straps.policy

/-- The record after the sweep of the overrides. -/
def overriddenBay : Bay :=
  if s.populated b = true ∧ (s.bayCfg b).override ≠ none then
    reclassedRecord (strapLimit s) (fun c => (defaultClass c).surge) (restoredAct s)
      (defaultCarrierEntry (rejudgedRecord s b).carrier.toFin) (rejudgedRecord s b)
  else rejudgedRecord s b

/-- The record after the sweep of the policies as well. -/
def repoliciedBay : Bay :=
  if s.populated b = true ∧ (s.bayCfg b).policy ≠ s.rst.straps.policy ∧
      ¬((overriddenBay s b).state = .queued ∧ wants s.rst.straps.policy (overriddenBay s b) = true) then
    restoredAct s (overriddenBay s b)
  else overriddenBay s b

theorem repoliciedBay_eq :
    repoliciedBay s b =
      if s.populated b then restoredRecord (strapLimit s) s.rst.straps.policy (s.bayCfg b) (rejudgedRecord s b)
      else rejudgedRecord s b := by
  cases hp : s.populated b with
  | false => simp [repoliciedBay, overriddenBay, hp]
  | true =>
    have first : overriddenBay s b = if (s.bayCfg b).override = none then rejudgedRecord s b
        else reclassedRecord (strapLimit s) (fun c => (defaultClass c).surge) (restoredAct s)
          (defaultCarrierEntry (rejudgedRecord s b).carrier.toFin) (rejudgedRecord s b) := by
      simp [overriddenBay, hp]
    have second : repoliciedBay s b = if (s.bayCfg b).policy = s.rst.straps.policy ∨
        ((overriddenBay s b).state = .queued ∧ wants s.rst.straps.policy (overriddenBay s b) = true) then
        overriddenBay s b else restoredAct s (overriddenBay s b) := by
      simp only [repoliciedBay, hp, true_and, ← not_or, ne_eq, ite_not]
    rw [second, first]
    rfl

/-- What operations on bays leave of the restored tables. -/
theorem restored_settings {w : Work} (h : BaysOnly (Work.start (restoreAll s)) w) :
    w.st.budgetLimit = strapLimit s ∧ (fun c => (w.st.driveClass c).surge) = (fun c => (defaultClass c).surge) ∧
      w.st.sup.drainSetting = 500 ∧ w.st.bayCfg b = defaultBayCfg s.rst.straps.policy b ∧
      (∀ k, classAnswer w.st b k = defaultCarrierEntry k.toFin) ∧ w.st.populated b = s.populated b := by
  obtain ⟨hl, hk, hd, hc, ha⟩ := h.settings
  have hp := h.populated b
  rw [Work.st_start] at hl hk hd hc ha hp
  obtain ⟨hrest, hsup, hsched, hacct, -⟩ := restoreAll_blocks s
  generalize restoreAll s = r at *
  have cfg : r.bayCfg b = defaultBayCfg s.rst.straps.policy b := by
    simp only [State.bayCfg, hsup, defaultCfg, Vector.get_eq_getElem, Vector.getElem_ofFn]
  refine ⟨?_, ?_, ?_, ?_, fun k => ?_, ?_⟩
  · rw [hl, State.budgetLimit, hacct]
    rfl
  · simp only [hk, driveClass_default (t := r) (by rw [hsched])]
  · rw [hd, hsup]
  · rw [hc, cfg]
  · rw [ha]
    simp only [classAnswer, cfg, defaultBayCfg, hsup, defaultCarrierMap, Vector.get_eq_getElem, Vector.getElem_ofFn]
  · rw [hp, hrest]
    rfl

theorem restoreAll_bay : (restoreAll s).bay b = rejudgedRecord s b := by
  obtain ⟨-, hsup, -⟩ := restoreAll_blocks s
  simp only [State.bay, hsup, Vector.get_eq_getElem, Vector.getElem_ofFn]

theorem restoreAll_temp : (restoreAll s).temp b = rejudgedTemp s b := by
  obtain ⟨-, -, -, -, hscan, -⟩ := restoreAll_blocks s
  simp only [State.temp, hscan, Vector.get_eq_getElem, Vector.getElem_ofFn]

/-- The working record after the sweep of the overrides. -/
def overridden : Work := sweep (restoreOverride s) allBays (Work.start (restoreAll s))

/-- The working record after both sweeps. -/
def repolicied : Work := sweep (restorePolicy s) allBays (overridden s)

theorem overridden_baysOnly : BaysOnly (Work.start (restoreAll s)) (overridden s) :=
  sweep_baysOnly (restoreOverride_edits s) ..

theorem repolicied_baysOnly : BaysOnly (Work.start (restoreAll s)) (repolicied s) :=
  (overridden_baysOnly s).trans (sweep_baysOnly (restorePolicy_edits s) ..)

theorem overridden_bay : (overridden s).st.bay b = overriddenBay s b := by
  rw [overridden]
  refine sweep_bay (restoreOverride_edits s) (Work.start (restoreAll s)) b fun w hf hb => ?_
  obtain ⟨hl, hk, hd, hc, ha, hp⟩ := restored_settings s b hf
  rw [Work.st_start, restoreAll_bay] at hb
  unfold restoreOverride overriddenBay
  rw [hp, hc]
  have changed : (s.populated b && decide ((s.bayCfg b).override ≠ (defaultBayCfg s.rst.straps.policy b).override)) = true ↔
      s.populated b = true ∧ (s.bayCfg b).override ≠ none := by
    rw [Bool.and_eq_true, decide_eq_true_eq]
    rfl
  by_cases h : s.populated b = true ∧ (s.bayCfg b).override ≠ none
  · rw [if_pos (changed.mpr h), if_pos h, reresolve_bay_same, hb, hl, hk, hd, hc, ha]
    rfl
  · rw [if_neg (mt changed.mp h), if_neg h, hb]

theorem repolicied_bay : (repolicied s).st.bay b = repoliciedBay s b := by
  rw [repolicied]
  refine sweep_bay (restorePolicy_edits s) (overridden s) b fun w hf hb => ?_
  obtain ⟨hl, hk, hd, hc, ha, hp⟩ := restored_settings s b ((overridden_baysOnly s).trans hf)
  rw [overridden_bay] at hb
  unfold restorePolicy repoliciedBay
  rw [hp, hc]
  have changed : (s.populated b && decide ((s.bayCfg b).policy ≠ (defaultBayCfg s.rst.straps.policy b).policy)) = true ↔
      s.populated b = true ∧ (s.bayCfg b).policy ≠ s.rst.straps.policy := by
    rw [Bool.and_eq_true, decide_eq_true_eq]
    rfl
  by_cases h : s.populated b = true ∧ (s.bayCfg b).policy ≠ s.rst.straps.policy
  · rw [if_pos (changed.mpr h), evaluateRestored_bay_same, hb, hl, hk, hd, hc]
    simp only [h, true_and, ne_eq, not_false_eq_true, ite_not]
    rfl
  · rw [if_neg (mt changed.mp h), if_neg fun ⟨h1, h2, _⟩ => h ⟨h1, h2⟩, hb]

end Records

end Sys2Proof.Machine
end

section
/-! PROOFS. PART RESET of TABLES scope, as the message gives it (R37, R50, R183). -/

namespace Sys2Proof.Machine

open Sys2Proof.Safety

/-! ### The standing after both sweeps -/

section Records

variable {limit : Int} {surge : ClassIx → Nat} {interval : Nat} {policy : Policy} {x : Bay}

/-- A bay that a class resolved again leaves in IDLE was there, or has no class any more. -/
theorem reclassedRecord_idle {answer : CarrierEntry}
    (h : (reclassedRecord limit surge (obeyedRecord limit surge interval policy) answer x).state = .idle) :
    let y := reclassedRecord limit surge (obeyedRecord limit surge interval policy) answer x
    (x.state = .idle ∧ (evaluated y).expedite = (evaluated x).expedite) ∨ y.cls = .blank := by
  intro y
  cases hst : x.state with
  | idle =>
    cases ha : answer with
    | unsupported =>
      subst ha
      simp [reclassedRecord, hst, faulted] at h
    | blank => exact .inr (by simp [y, reclassedRecord, hst, ha])
    | cls c =>
      have e : y = obeyedRecord limit surge interval policy { x with cls := .cls c } := by
        simp [y, reclassedRecord, hst, ha]
      change y.state = _ at h
      rw [e] at h ⊢
      rcases obeyedRecord_idle h with ⟨-, he⟩ | ⟨hq, -⟩
      · rw [he, evaluated_evaluated]
        exact .inl ⟨rfl, rfl⟩
      · simp [hst] at hq
  | queued =>
    cases ha : answer with
    | unsupported =>
      subst ha
      simp [reclassedRecord, hst, faulted] at h
    | blank => exact .inr (by simp [y, reclassedRecord, hst, ha, evaluated])
    | cls c =>
      subst ha
      simp only [reclassedRecord, hst] at h
      split at h <;> simp [faulted] at h
  | empty | settling | surge | run | drain | fault =>
    rw [reclassedRecord_still (by simp [hst]) (by simp [hst])] at h
    simp [hst] at h

theorem reclassedRecord_unpowered {answer : CarrierEntry} (h : x.powered = false) :
    (reclassedRecord limit surge (obeyedRecord limit surge interval policy) answer x).powered = false := by
  have still : ∀ y : Bay, y.state = .idle ∨ y.state = .queued ∨ y.state = .fault → y.powered = false := fun y hy => by
    rcases hy with hy | hy | hy <;> simp [Bay.powered, hy]
  cases hst : x.state with
  | idle =>
    cases ha : answer with
    | unsupported => exact still _ (by simp [reclassedRecord, hst, faulted])
    | blank => exact still _ (by simp [reclassedRecord, hst])
    | cls c =>
      simp only [reclassedRecord, hst]
      exact obeyedRecord_unpowered (still _ (.inl rfl))
  | queued =>
    cases ha : answer with
    | unsupported => exact still _ (by simp [reclassedRecord, hst, faulted])
    | blank => exact still _ (by simp [reclassedRecord, hst, evaluated])
    | cls c =>
      simp only [reclassedRecord, hst]
      split
      · exact still _ (by simp [faulted])
      · exact still _ (by simp)
  | empty | settling | surge | run | drain | fault =>
    rwa [reclassedRecord_still (by simp [hst]) (by simp [hst])]

/-- A bay without a class in IDLE stays there. -/
theorem obeyedRecord_blank (h : x.state = .idle) (hc : x.cls = .blank) :
    (obeyedRecord limit surge interval policy x).state = .idle := by
  simp [obeyedRecord, h, hc, evaluated]

end Records

section Restored

variable (s : State) (b : BayIx)

theorem repoliciedBay_queued (h : (repoliciedBay s b).state = .queued) :
    (overriddenBay s b).state = .queued ∨
      ((overriddenBay s b).state = .idle ∧ (rejudgedRecord s b).state = .idle ∧
        (evaluated (overriddenBay s b)).expedite = (evaluated (rejudgedRecord s b)).expedite) := by
  unfold repoliciedBay at h
  split at h
  · rcases (obeyedRecord_queued h).1 with hi | hq
    · refine .inr ⟨hi, ?_⟩
      unfold overriddenBay at hi h ⊢
      split at hi
      · next ho =>
        rw [if_pos ho] at h ⊢
        refine (reclassedRecord_idle hi).resolve_right fun hc => ?_
        have idle := obeyedRecord_blank (limit := strapLimit s) (surge := fun c => (defaultClass c).surge) (interval := 500)
          (policy := s.rst.straps.policy) hi hc
        have never := idle.symm.trans h
        cases never
      · next ho =>
        rw [if_neg ho]
        exact ⟨hi, rfl⟩
    · exact .inl hq
  · exact .inl h

theorem overriddenBay_unpowered (h : (rejudgedRecord s b).powered = false) : (overriddenBay s b).powered = false := by
  unfold overriddenBay
  split
  · exact reclassedRecord_unpowered h
  · exact h

theorem overriddenBay_powered (h : (rejudgedRecord s b).powered = true) : overriddenBay s b = rejudgedRecord s b := by
  have hst := (Bay.powered_iff _).mp h
  unfold overriddenBay
  split
  · exact reclassedRecord_still (by rcases hst with h | h <;> simp [h]) (by rcases hst with h | h <;> simp [h])
  · rfl

theorem repolicied_moved : Moved false b (Work.start (restoreAll s)) (repolicied s) := by
  have first : Moved false b (Work.start (restoreAll s)) (overridden s) := by
    rw [overridden]
    exact sweep_moved (restoreOverride_edits s) (Work.start (restoreAll s)) b fun w => restoreOverride_moved s b w
  have second : Moved false b (overridden s) (repolicied s) := by
    rw [repolicied]
    exact sweep_moved (restorePolicy_edits s) (overridden s) b fun w => restorePolicy_moved s b w
  exact first.trans (restoreAll_bay s b) (overridden_bay s b) (repolicied_bay s b) second (repoliciedBay_queued s b)
    (overriddenBay_unpowered s b) fun h => .inr (overriddenBay_powered s b h)

theorem rejudgedRecord_alike :
    (rejudgedRecord s b).state = (s.bay b).state ∧ (rejudgedRecord s b).powered = (s.bay b).powered ∧
      (evaluated (rejudgedRecord s b)).expedite = (evaluated (s.bay b)).expedite := by
  rw [rejudgedRecord_attn]
  exact ⟨rfl, rfl, rfl⟩

/-- A bay that the restoration brings to the head of the queue. -/
def restoredHead : Bool :=
  s.populated b && decide ((repoliciedBay s b).state = .queued) && (evaluated (s.bay b)).expedite &&
    decide ((s.bay b).state = .idle)

theorem restoredHead_iff :
    restoredHead s b = true ↔ (repoliciedBay s b).state = .queued ∧ (evaluated (s.bay b)).expedite = true ∧
      (s.bay b).state = .idle := by
  simp only [restoredHead, Bool.and_eq_true, decide_eq_true_eq, and_assoc]
  refine ⟨fun ⟨_, h⟩ => h, fun h => ⟨?_, h⟩⟩
  by_contra hp
  have absent : repoliciedBay s b = rejudgedRecord s b := by rw [repoliciedBay_eq, if_neg hp]
  have idle := (rejudgedRecord_alike s b).1.trans h.2.2
  rw [← absent, h.1] at idle
  cases idle

theorem repolicied_stands (hm : b ∈ s.sched.queue ↔ (s.bay b).state = .queued) :
    Stands b (repolicied s) (placed false (s.bay b) (repoliciedBay s b) (standing b s)) := by
  obtain ⟨hst, -, hex⟩ := rejudgedRecord_alike s b
  have queue : (restoreAll s).sched.queue = s.sched.queue := by
    obtain ⟨-, -, hsched, -⟩ := restoreAll_blocks s
    rw [hsched]
  have bay := (restoreAll_bay s b)
  have moved := repolicied_moved s b
  generalize restoreAll s = r at queue bay moved
  have start := stands_start (s := r) (b := b) (by rw [queue, bay, hst, hm])
  rw [bay, hst, ← standing] at start
  obtain ⟨stands, -⟩ := moved
  have here : (Work.start r).st.bay b = rejudgedRecord s b := bay
  rw [here, repolicied_bay] at stands
  have out : (rejudgedRecord s b).state ≠ .queued → standing b s = .out := fun h => if_neg (hst ▸ h)
  have h := stands _ start out
  rw [placed, hst, hex] at h
  exact h

/-- Who asks for an entry after both sweeps, and which QUEUED bays stay. -/
theorem repolicied_asks (hm : b ∈ s.sched.queue ↔ (s.bay b).state = .queued) :
    (b ∈ (repolicied s).heads ↔ restoredHead s b = true) ∧
      (b ∈ (repolicied s).tails ↔
        restoredHead s b = false ∧ (repoliciedBay s b).state = .queued ∧ (s.bay b).state ≠ .queued) ∧
      ((s.bay b).state = .queued → (b ∈ (repolicied s).st.sched.queue ∧ b ∉ (repolicied s).heads ↔
        (repoliciedBay s b).state = .queued)) := by
  have h := repolicied_stands s b hm
  have head := restoredHead_iff s b
  by_cases hz : (repoliciedBay s b).state = .queued
  · by_cases hh : (evaluated (s.bay b)).expedite = true ∧ (s.bay b).state = .idle
    · rw [placed_head hz hh.1 (.inl hh.2)] at h
      obtain ⟨ht, hd⟩ := h
      have yes : restoredHead s b = true := head.mpr ⟨hz, hh⟩
      exact ⟨iff_of_true hd yes, iff_of_false ht (by simp [yes]), fun hx => by simp [hh.2] at hx⟩
    · have no : restoredHead s b = false := Bool.eq_false_iff.mpr fun e => hh (head.mp e).2
      by_cases hx : (s.bay b).state = .queued
      · rw [placed_stays hz hx fun _ => rfl, standing, if_pos hx] at h
        obtain ⟨hq, ht, hd⟩ := h
        exact ⟨iff_of_false hd (by simp [no]), iff_of_false ht (by simp [hx]), fun _ => iff_of_true ⟨hq, hd⟩ hz⟩
      · rw [placed, if_neg (not_not_intro hz), if_neg (by simpa using hh), if_neg hx] at h
        obtain ⟨hq, ht, hd⟩ := h
        exact ⟨iff_of_false hd (by simp [no]), iff_of_true ht ⟨no, hz, hx⟩, fun e => absurd e hx⟩
  · rw [placed_out hz] at h
    obtain ⟨hq, ht, hd⟩ := h
    exact ⟨iff_of_false hd fun e => hz (head.mp e).1, iff_of_false ht fun e => hz e.2.1,
      fun _ => iff_of_false (fun e => hq e.1) hz⟩

theorem repolicied_queue (hm : ∀ b, b ∈ s.sched.queue ↔ (s.bay b).state = .queued) :
    (repolicied s).entered.sched.queue =
      (allBays.filter (restoredHead s)).reverse ++
        (s.sched.queue.filter fun b => decide ((repoliciedBay s b).state = .queued)) ++
        allBays.filter fun b =>
          !restoredHead s b && decide ((repoliciedBay s b).state = .queued) && decide ((s.bay b).state ≠ .queued) := by
  have order : (repolicied s).st.sched.queue =
      s.sched.queue.filter (fun b => decide (b ∈ (repolicied s).st.sched.queue)) := by
    have queue : (restoreAll s).sched.queue = s.sched.queue := by
      obtain ⟨-, -, hsched, -⟩ := restoreAll_blocks s
      rw [hsched]
    have h := (repolicied_baysOnly s).order
    rwa [Work.st_start, queue] at h
  have asks := fun b => repolicied_asks s b (hm b)
  show groupedQueue (repolicied s).st.sched.queue (repolicied s).tails (repolicied s).heads = _
  generalize repolicied s = w at order asks ⊢
  have heads : (allBays.filter fun b => decide (b ∈ w.heads)) = allBays.filter (restoredHead s) :=
    List.filter_congr fun b _ => by rw [Bool.eq_iff_iff, decide_eq_true_eq, (asks b).1]
  have tails : (allBays.filter fun b => decide (b ∈ w.tails)) = allBays.filter fun b =>
      !restoredHead s b && decide ((repoliciedBay s b).state = .queued) && decide ((s.bay b).state ≠ .queued) :=
    List.filter_congr fun b _ => by
      rw [Bool.eq_iff_iff, decide_eq_true_eq, (asks b).2.1]
      simp only [Bool.and_eq_true, Bool.not_eq_true', decide_eq_true_eq, and_assoc]
  have stays : (w.st.sched.queue.filter fun b => decide (b ∉ w.heads)) =
      s.sched.queue.filter fun b => decide ((repoliciedBay s b).state = .queued) := by
    rw [order, List.filter_filter]
    refine List.filter_congr fun b hb => ?_
    rw [Bool.eq_iff_iff, Bool.and_eq_true, decide_eq_true_eq, decide_eq_true_eq, decide_eq_true_eq, and_comm]
    exact (asks b).2.2 ((hm b).mp hb)
  rw [groupedQueue, heads, tails, stays, List.append_assoc]

end Restored

/-! ### The map (R157, R158) -/

theorem resolvedSlot_congr {s t : State} (hr : t.rst = s.rst) (hp : t.loop.position = s.loop.position)
    (hc : t.sup.cfg = s.sup.cfg) : resolvedSlot t = resolvedSlot s ∧ outranked t = outranked s := by
  have claims : claim t = claim s := by
    have slot : fieldSlot t = fieldSlot s := by
      funext b f
      cases f <;> simp only [fieldSlot, hp]
    funext b
    have populated : t.populated b = s.populated b := by simp only [State.populated, hr]
    have cfg : t.bayCfg b = s.bayCfg b := by simp only [State.bayCfg, hc]
    rw [claim, claim, slot, populated, cfg]
  have ranks : outranked t = outranked s := by
    funext b
    simp only [outranked, claims]
  exact ⟨by funext b; simp only [resolvedSlot, ranks, claims], ranks⟩

theorem resolveMap_mapResolved (s : State) : MapResolved (resolveMap s) := by
  have kept : (resolveMap s).rst = s.rst ∧ (resolveMap s).loop.position = s.loop.position ∧
      (resolveMap s).sup.cfg = s.sup.cfg := by
    unfold resolveMap
    exact ⟨rfl, rfl, rfl⟩
  obtain ⟨hs, ho⟩ := resolvedSlot_congr kept.1 kept.2.1 kept.2.2
  unfold MapResolved
  rw [hs, ho]
  unfold resolveMap
  exact ⟨rfl, rfl⟩

theorem mapResolved_congr {s t : State} (hr : t.rst = s.rst) (hl : t.loop = s.loop) (hc : t.sup.cfg = s.sup.cfg)
    (h : MapResolved s) : MapResolved t := by
  obtain ⟨hs, ho⟩ := resolvedSlot_congr hr (by rw [hl]) hc
  rw [MapResolved, hs, ho, hl]
  exact h

/-! ### The message -/

theorem Work.entered_bay (w : Work) (b : BayIx) : w.entered.bay b = w.st.bay b := rfl

theorem Work.entered_temp (w : Work) (b : BayIx) : w.entered.temp b = w.st.temp b := rfl

/-- What the restoration comes to before the attempt that closes it. -/
def tablesReset (s : State) : State := (repolicied s).entered

theorem resetTables_eq (s : State) : resetTables s = attempt (tablesReset s) := by
  have owed : ∀ w : Work, w.owe.finish s = attempt w.entered := fun w => by
    simp only [Work.finish, Work.owe, Bool.true_or, if_true]
    rfl
  rw [resetTables, event, Work.start_map, restoreBays_eq, owed]
  rfl

/-- The restored tables, but for the bays, the temperatures and the queue. -/
theorem tablesReset_rest (s : State) :
    tablesReset s =
      { restoreAll s with
        sup := { (restoreAll s).sup with bays := (tablesReset s).sup.bays }
        sched := { (restoreAll s).sched with queue := (tablesReset s).sched.queue }
        scan := { (restoreAll s).scan with temps := (tablesReset s).scan.temps } } := by
  have rest := (repolicied_baysOnly s).rest
  unfold tablesReset Work.entered
  rw [Work.st_start] at rest
  generalize restoreAll s = r at rest ⊢
  generalize groupedQueue _ _ _ = q
  generalize (repolicied s).st = t at rest ⊢
  rw [rest]

theorem tablesReset_bay (s : State) (b : BayIx) :
    (tablesReset s).bay b =
      if s.populated b then restoredRecord (strapLimit s) s.rst.straps.policy (s.bayCfg b) (rejudgedRecord s b)
      else rejudgedRecord s b := by
  rw [tablesReset, Work.entered_bay, repolicied_bay, repoliciedBay_eq]

/-- A temperature goes with the power of its bay (R23). -/
theorem tablesReset_temp (s : State) (b : BayIx) :
    (tablesReset s).temp b =
      if s.populated b = true ∧ ((s.bay b).state = .surge ∨ (s.bay b).state = .run) ∧ ((tablesReset s).bay b).state = .drain
      then none else rejudgedTemp s b := by
  have moved := (repolicied_moved s b).temp
  rw [Work.st_start, restoreAll_bay, restoreAll_temp] at moved
  have temp : (tablesReset s).temp b = cooled (rejudgedRecord s b) ((tablesReset s).bay b) (rejudgedTemp s b) := by
    rw [tablesReset, Work.entered_temp, Work.entered_bay, moved]
  have powered := (rejudgedRecord_alike s b).2.1
  rw [temp, cooled, powered]
  refine if_congr ⟨fun ⟨hp, hd⟩ => ⟨?_, (Bay.powered_iff _).mp hp, hd⟩,
    fun ⟨_, hp, hd⟩ => ⟨(Bay.powered_iff _).mpr hp, hd⟩⟩ rfl rfl
  by_contra absent
  have hp := (Bay.powered_iff _).mp hp
  rw [tablesReset_bay, if_neg absent, (rejudgedRecord_alike s b).1] at hd
  rcases hp with hp | hp <;> rw [hd] at hp <;> cases hp

end Sys2Proof.Machine
end

section
/-! PROOFS. PART RESET of TABLES scope completes (R37, R50, R183). -/

namespace Sys2Proof.Machine

open Sys2Proof.Safety

/-- The queue after the restoration: those brought to the head, those that stay in their order, those brought to the
tail. -/
theorem tablesReset_queue {s : State} (hm : QueueMatches s) :
    let head := fun (b : BayIx) =>
      s.populated b && decide (((tablesReset s).bay b).state = .queued) && (evaluated (s.bay b)).expedite &&
        decide ((s.bay b).state = .idle)
    (tablesReset s).sched.queue =
      (allBays.filter head).reverse ++
        (s.sched.queue.filter fun b => decide (((tablesReset s).bay b).state = .queued)) ++
        allBays.filter fun b =>
          !head b && decide (((tablesReset s).bay b).state = .queued) && decide ((s.bay b).state ≠ .queued) := by
  have bay : ∀ b, (tablesReset s).bay b = repoliciedBay s b := fun b => by
    rw [tablesReset, Work.entered_bay, repolicied_bay]
  intro head
  have heads : head = restoredHead s := funext fun b => by simp only [head, bay, restoredHead]
  simp only [heads, bay]
  rw [tablesReset, repolicied_queue s hm.2]

theorem tablesReset_mapResolved (s : State) : MapResolved (tablesReset s) := by
  have rest := tablesReset_rest s
  have resolved : MapResolved (restoreAll s) := by
    rw [restoreAll_eq]
    exact resolveMap_mapResolved _
  generalize tablesReset s = v, restoreAll s = r at rest resolved ⊢
  exact mapResolved_congr (by rw [rest]) (by rw [rest]) (by rw [rest]) resolved

/-- Settles O50: the restored tables block by block, the two sweeps bay by bay, and one attempt. -/
theorem partResetTablesCompletes : Obligations.PartResetTablesCompletes := by
  intro s dst tag hr hp policy ceiling hot judged fan broken
  have answer : msgResetTables s = ⟨attempt (tablesReset s), .ok, [], false⟩ := by
    rw [msgResetTables, resetTables_eq]
    rfl
  have toAll : dst = 15#8 → exec (.partResetTables dst tag) s = .next (attempt (tablesReset s)) := fun hd =>
    (message_to_part_or_all hr hp (.inl hd) answer tag 20#8).trans (by rw [if_pos hd])
  have toPart : Takes s dst → exec (.partResetTables dst tag) s = .next (answered (attempt (tablesReset s)) 20#8 tag .ok []) :=
    fun ht => message_answered ht answer tag 20#8 true
  clear answer
  have rest := tablesReset_rest s
  have bay := tablesReset_bay s
  have temp := tablesReset_temp s
  have queue := tablesReset_queue (s := s)
  have resolved := tablesReset_mapResolved s
  obtain ⟨hrest, hsup, hsched, hacct, hscan, hcool, hind, hloop⟩ := restoreAll_blocks s
  have reserved := defaultedJudged_reserve s
  have cooling := defaultedJudged_cool s
  generalize tablesReset s = v, restoreAll s = r, defaultedJudged s = j at *
  have vsup : v.sup = { r.sup with bays := v.sup.bays } := by rw [rest]
  have vcool : v.cool = r.cool := by rw [rest]
  have vscan : v.scan = { r.scan with temps := v.scan.temps } := by rw [rest]
  have vchannels : v.scan.channels = Vector.ofFn (restoredChannel s) := by rw [vscan, hscan]
  have fans : ∀ f, v.fan f = restoredFan s f := fun f => by
    simp only [State.fan, vcool, hcool, cooling, Vector.get_eq_getElem, Vector.getElem_ofFn]
  refine ⟨v, toAll, toPart, ?_, ?_, fun b => ⟨?_, bay b, temp b, ?_⟩, ?_, queue, ?_, ?_, ?_, fun ch => ?_, ?_, fans,
    fun z => ?_, ?_, ?_, resolved⟩
  · rw [rest, hrest]
  · rw [vsup, hsup]
  · have cfg : v.sup.cfg = defaultCfg policy := by rw [vsup, hsup]
    rw [State.bayCfg, cfg, defaultCfg, Vector.get_eq_getElem, Vector.getElem_ofFn]
    rfl
  · have vind : v.ind = r.ind := by rw [rest]
    rw [State.bayLights, vind, hind, Vector.get_eq_getElem, Vector.getElem_ofFn]
  · rw [rest, hsched]
  · have vacct : v.acct = r.acct := by rw [rest]
    rw [vacct, hacct]
  · have vacct : v.acct = r.acct := by rw [rest]
    simp only [vacct, hacct, reserved, fans]
  · have conversions : restoredConversion s = fun k =>
        if (s.sensor k.channel).enabled = true ∧ 4 ≤ k.channel.val ∧ k.channel.val ≤ 7 then { k with cancelled := true }
        else k := funext fun k => if_congr (turnsOff_iff s k.channel) rfl rfl
    rw [conversions] at hscan
    rw [vscan, hscan]
  · have channel : v.channel ch = restoredChannel s ch := by
      simp only [State.channel, vchannels, Vector.get_eq_getElem, Vector.getElem_ofFn]
    rw [channel]
    exact if_congr (turnsOff_iff s ch) rfl rfl
  · rw [vcool, hcool, cooling]
  · have zone : v.zone z = restoredZone s z := by
      simp only [State.zone, vcool, hcool, Vector.get_eq_getElem, Vector.getElem_ofFn]
    exact zone
  · have vind : v.ind = r.ind := by rw [rest]
    rw [vind, hind]
  · have vloop : v.loop = r.loop := by rw [rest]
    rw [vloop]
    exact hloop

end Sys2Proof.Machine
end

section
/-! PROOFS. What an event does to the admission queue and the stagger frame: every bay stands where its state says in the
working record of an event, and an attempt admits within the limit (R44 to R49, R52 to R56). -/

namespace Sys2Proof.Machine

open Sys2Proof.Safety

/-! ### Both invariants at once -/

/-- From s to t the queue stays in agreement with the bay states and the stagger frame within its limit. -/
structure Staged (s t : State) : Prop where
  queue : QueueMatches s → QueueMatches t
  pace : PaceRespected s → PaceRespected t

theorem Staged.refl (s : State) : Staged s s := ⟨id, id⟩

theorem Staged.trans {s t u : State} (h : Staged s t) (k : Staged t u) : Staged s u :=
  ⟨k.queue ∘ h.queue, k.pace ∘ h.pace⟩

/-- t has the scheduler of s, and every bay in its state. -/
structure Aside (s t : State) : Prop where
  sched : t.sched = s.sched
  states : ∀ b, (t.bay b).state = (s.bay b).state

theorem Aside.refl (s : State) : Aside s s := ⟨rfl, fun _ => rfl⟩

theorem Aside.trans {s t u : State} (h : Aside s t) (k : Aside t u) : Aside s u :=
  ⟨k.sched.trans h.sched, fun b => (k.states b).trans (h.states b)⟩

/-- A change of other blocks. -/
theorem Aside.same {s t : State} (hs : t.sched = s.sched) (hb : t.sup.bays = s.sup.bays) : Aside s t :=
  ⟨hs, fun b => by simp only [State.bay, hb]⟩

theorem Aside.setBay {s : State} {b : BayIx} {x : Bay} (h : x.state = (s.bay b).state) : Aside s (s.setBay b x) :=
  ⟨rfl, fun c => by
    rw [State.bay_setBay]
    split
    · next e => rw [h, e]
    · rfl⟩

theorem Aside.staged {s t : State} (h : Aside s t) : Staged s t :=
  ⟨fun hq => by simpa only [QueueMatches, h.sched, h.states] using hq,
    fun hp => by simpa only [PaceRespected, h.sched] using hp⟩

/-! ### The attempt -/

theorem admitBay_queueMatches {s : State} {b : BayIx} (h : QueueMatches s) (c : DriveClass) :
    QueueMatches (admitBay b c s) := by
  obtain ⟨hn, hm⟩ := h
  refine ⟨hn.filter _, fun d => ?_⟩
  have mem : d ∈ (admitBay b c s).sched.queue ↔ d ∈ s.sched.queue ∧ d ≠ b := by simp [admitBay]
  rw [mem]
  by_cases hd : d = b
  · subst hd
    simp [admitted]
  · rw [admitBay_bay_other c s hd, hm]
    simp [hd]

theorem attempt_staged (s : State) : Staged s (attempt s) := by
  refine ⟨attempt_kept (P := QueueMatches) fun t b c ht _ _ _ _ _ _ => admitBay_queueMatches ht c,
    attempt_kept (P := PaceRespected) fun t b c ht _ _ _ _ hlimit _ => ?_⟩
  obtain ⟨hpace, hpending, hle, hframe⟩ := ht
  refine ⟨hpace, hpending, ?_, hframe⟩
  show (if c.staged then t.sched.admissions + 1 else t.sched.admissions) ≤ t.sched.pace.limit
  split
  · exact hlimit ‹_›
  · exact hle

/-! ### The working record of an event -/

/-- Bay b stands outside the queue of an event exactly if it is not QUEUED. -/
def Seated (b : BayIx) (w : Work) : Prop := ∃ p, Stands b w p ∧ (p = .out ↔ (w.st.bay b).state ≠ .queued)

/-- The queue of an event holds no bay twice, and every bay is seated in it. -/
def Fits (w : Work) : Prop := w.st.sched.queue.Nodup ∧ ∀ b, Seated b w

theorem fits_start {s : State} (h : QueueMatches s) : Fits (Work.start s) := by
  refine ⟨h.1, fun b => ⟨_, stands_start (h.2 b), ?_⟩⟩
  rw [Work.st_start]
  split <;> simp_all

/-- Where a seated bay stands, in the terms of the three lists. -/
theorem Seated.iff {b : BayIx} {w : Work} (h : Seated b w) :
    (b ∈ w.tails → b ∉ w.heads ∧ b ∉ w.st.sched.queue) ∧
      ((b ∈ w.heads ∨ b ∈ w.st.sched.queue ∨ b ∈ w.tails) ↔ (w.st.bay b).state = .queued) := by
  obtain ⟨p, hp, ho⟩ := h
  cases p with
  | out | kept | tail =>
    obtain ⟨hq, ht, hh⟩ := hp
    simp_all
  | head =>
    obtain ⟨ht, hh⟩ := hp
    simp_all

/-- The group taken into the queue puts every bay in it once, where it is QUEUED (R49). -/
theorem Fits.entered {w : Work} (h : Fits w) : QueueMatches w.entered := by
  obtain ⟨hn, hs⟩ := h
  constructor
  · show (groupedQueue w.st.sched.queue w.tails w.heads).Nodup
    refine List.nodup_append'.mpr ⟨List.nodup_reverse.mpr (allBays_nodup.filter _),
      List.nodup_append'.mpr ⟨hn.filter _, allBays_nodup.filter _, fun c hq ht => ?_⟩, fun c hh hr => ?_⟩
    · simp only [List.mem_filter, decide_eq_true_eq] at hq ht
      exact ((hs c).iff.1 ht.2).2 hq.1
    · simp only [List.mem_reverse, List.mem_append, List.mem_filter, decide_eq_true_eq] at hh hr
      rcases hr with hr | hr
      · exact hr.2 hh.2
      · exact ((hs c).iff.1 hr.2).1 hh.2
  · intro b
    show b ∈ groupedQueue w.st.sched.queue w.tails w.heads ↔ (w.st.bay b).state = .queued
    rw [← (hs b).iff.2]
    simp only [groupedQueue, List.mem_append, List.mem_reverse, List.mem_filter, mem_allBays, true_and, decide_eq_true_eq]
    by_cases hh : b ∈ w.heads <;> simp [hh]

/-- From w to w' every bay stays seated and the stagger frame within its limit. -/
structure StagedWork (w w' : Work) : Prop where
  fits : Fits w → Fits w'
  pace : PaceRespected w.st → PaceRespected w'.st

theorem StagedWork.refl (w : Work) : StagedWork w w := ⟨id, id⟩

theorem StagedWork.trans {w w' w'' : Work} (h : StagedWork w w') (k : StagedWork w' w'') : StagedWork w w'' :=
  ⟨k.fits ∘ h.fits, k.pace ∘ h.pace⟩

theorem StagedWork.owe {w w' : Work} (h : StagedWork w w') : StagedWork w w'.owe :=
  h.trans ⟨fun ⟨hn, hs⟩ => ⟨hn, fun b => let ⟨p, hp, ho⟩ := hs b; ⟨p, hp.owe, ho⟩⟩, id⟩

/-- A change of the state that leaves the queue and the bay states. -/
theorem stagedWork_map {w : Work} {f : State → State} (hq : (f w.st).sched.queue = w.st.sched.queue)
    (hs : ∀ b, ((f w.st).bay b).state = (w.st.bay b).state) (hp : PaceRespected w.st → PaceRespected (f w.st)) :
    StagedWork w (w.map f) := by
  refine ⟨fun ⟨hn, hb⟩ => ⟨?_, fun b => ?_⟩, hp⟩
  · rwa [Work.st_map, hq]
  · obtain ⟨p, hstands, ho⟩ := hb b
    refine ⟨p, ?_, by rwa [Work.st_map, hs]⟩
    cases p <;> (simp only [Stands, Work.st_map, hq]; exact hstands)

theorem Aside.map {w : Work} {f : State → State} (h : Aside w.st (f w.st)) : StagedWork w (w.map f) :=
  stagedWork_map (by rw [h.sched]) h.states h.staged.pace

theorem stagedWork_foldl {α : Type} {k : Work → α → Work} (h : ∀ w x, StagedWork w (k w x)) (l : List α) (w : Work) :
    StagedWork w (l.foldl k w) := by
  induction l generalizing w with
  | nil => exact .refl w
  | cons x l ih => exact (h w x).trans (ih _)

/-- An event keeps both invariants where its changes do. -/
theorem event_staged {f : Work → Work} {s : State} (h : StagedWork (Work.start s) (f (Work.start s))) :
    Staged s (event f s) :=
  ⟨fun hq => event_kept (fun t => (attempt_staged t).queue) (h.fits (fits_start hq)).entered,
    fun hp => event_kept (fun t => (attempt_staged t).pace) (h.pace hp)⟩

theorem event_staged_map {f : State → State} {s : State} (h : Aside s (f s)) : Staged s (event (·.map f) s) :=
  event_staged (f := (·.map f)) (Aside.map (w := Work.start s) h)

/-! ### An operation on one bay -/

/-- w' is w after an operation on bay b that leaves the bay seated. -/
structure Reseats (b : BayIx) (w w' : Work) : Prop where
  edits : Edits b w w'
  seat : Seated b w → Seated b w'

theorem Agree.seated {c : BayIx} {w w' : Work} (h : Agree c w w') (hs : Seated c w) : Seated c w' := by
  obtain ⟨p, hp, ho⟩ := hs
  exact ⟨p, h.stands hp, by rwa [h.bay]⟩

/-- The other bays stay where they are, and the stagger frame is not looked at. -/
theorem Reseats.staged {b : BayIx} {w w' : Work} (h : Reseats b w w') : StagedWork w w' := by
  refine ⟨fun ⟨hn, hs⟩ => ⟨?_, fun c => ?_⟩, fun hp => ?_⟩
  · rw [h.edits.frame.order]
    exact hn.filter _
  · by_cases hc : c = b
    · exact hc ▸ h.seat (hs b)
    · exact (h.edits.others c hc).seated (hs c)
  · rw [h.edits.frame.rest]
    exact hp

theorem Moved.seat {again : Bool} {b : BayIx} {w w' : Work} (h : Moved again b w w') (hs : Seated b w) : Seated b w' := by
  obtain ⟨p, hp, ho⟩ := hs
  refine ⟨_, h.stands p hp ho.mpr, fun hout hq => ?_, placed_out⟩
  have stays : (w.st.bay b).state = .queued → p ≠ .out := fun hx hp => ho.mp hp hx
  unfold placed at hout
  rw [if_neg (not_not_intro hq)] at hout
  split at hout
  · cases hout
  · split at hout
    · next hx => exact stays hx hout
    · cases hout

namespace Reseats

variable {b : BayIx}

theorem refl (b : BayIx) (w : Work) : Reseats b w w := ⟨.refl b w, id⟩

theorem trans {w w' w'' : Work} (h : Reseats b w w') (k : Reseats b w' w'') : Reseats b w w'' :=
  ⟨h.edits.trans k.edits, k.seat ∘ h.seat⟩

variable {w : Work}

/-- A change of the record that brings the bay neither into QUEUED nor out of it. -/
theorem setBay {x : Bay} (h : x.state = .queued ↔ (w.st.bay b).state = .queued) : Reseats b w (w.setBay b x) := by
  refine ⟨.setBay w x, fun ⟨p, hp, ho⟩ => ⟨p, hp.setBay b x, ?_⟩⟩
  rw [Work.st_setBay, State.bay_setBay_same, ho, ne_eq, ne_eq, not_congr h]

theorem setTemp (t : Option TempRec) : Reseats b w (w.map (·.setTemp b t)) :=
  ⟨⟨⟨rfl, filter_mem_self _⟩, fun c hc => ⟨rfl, State.temp_setTemp_other _ _ hc, .rfl, .rfl, .rfl⟩⟩,
    fun ⟨p, hp, ho⟩ => ⟨p, by cases p <;> exact hp, ho⟩⟩

/-- A bay leaves QUEUED with its entry (R47). -/
theorem withdrawn {x : Bay} (h : x.state ≠ .queued) : Reseats b w ((w.setBay b x).withdraw b) :=
  ⟨(Edits.setBay w x).trans (.withdraw _), fun _ => ⟨.out, stands_withdraw b _, by simpa using h⟩⟩

theorem evaluate : Reseats b w (evaluate b w) := ⟨.evaluate w, (evaluate_moved rfl).seat⟩

theorem reresolve : Reseats b w (reresolve b w) := ⟨.reresolve w, (reresolve_moved rfl).seat⟩

variable (h : (w.st.bay b).state ≠ .queued)

include h

theorem removePower {next : BayState} (hn : next ≠ .queued) : Reseats b w (removePower b next w) := by
  refine ⟨.removePower w next, fun ⟨p, hp, ho⟩ => ⟨p, hp.removePower b next, ?_⟩⟩
  have left : ((Machine.removePower b next w).st.bay b).state = next := by simp [removePower_eq]
  rw [left, ho]
  exact iff_of_true h hn

theorem enterFault (c : FaultCause) : Reseats b w (enterFault b c w) := by
  cases hp : (w.st.bay b).powered with
  | false =>
    rw [enterFault_unpowered hp]
    exact setBay (iff_of_false (by simp [faulted]) h)
  | true =>
    rw [enterFault_powered hp]
    exact (removePower h (by simp)).trans (setBay (iff_of_false (by simp [faulted]) (by simp [removePower_eq])))

theorem enterEmpty : Reseats b w (enterEmpty b w) := setBay (iff_of_false (by simp) h)

theorem enterSettling : Reseats b w (enterSettling b w) := setBay (iff_of_false (by simp) h)

theorem enterRun : Reseats b w (enterRun b w) := setBay (iff_of_false (by simp) h)

theorem enterIdle : Reseats b w (enterIdle b w) := by
  have read : Reseats b w (readCarrier b w) := setBay .rfl
  have idle : ∀ x : Bay, x.state = .idle → Reseats b w ((readCarrier b w).setBay b x) := fun x hx =>
    read.trans (setBay (iff_of_false (by simp [hx]) (by simpa [readCarrier] using h)))
  have same : ∀ x : Bay, x.state = ((readCarrier b w).st.bay b).state → Reseats b w ((readCarrier b w).setBay b x) :=
    fun x hx => read.trans (setBay (by rw [hx]))
  unfold Machine.enterIdle
  dsimp only
  split
  · exact (same { (readCarrier b w).st.bay b with cls := .unresolved, debounce := none } rfl).trans
      (enterFault (by simpa [readCarrier] using h) _)
  · exact (idle _ rfl).trans evaluate
  · exact (idle _ rfl).trans evaluate

theorem leaveUnpowered : Reseats b w (leaveUnpowered b w) := by
  unfold Machine.leaveUnpowered
  split
  · exact enterIdle h
  · exact enterEmpty h

end Reseats

end Sys2Proof.Machine
end

section
/-! PROOFS. The events and requests of one bay leave it seated in the queue, and a sweep over the bays leaves them all so
(R44 to R49). -/

namespace Sys2Proof.Machine

open Sys2Proof.Safety

section

variable {b : BayIx} {w : Work}

/-! ### The bay events of the scan -/

theorem presenceActive_reseats : Reseats b w (presenceActive b w) := by
  have noted : Reseats b w (w.setBay b { w.st.bay b with presence := true }) := .setBay .rfl
  unfold presenceActive
  dsimp only
  split
  · next h => exact noted.trans (.enterSettling (by rw [h]; simp))
  · exact noted

theorem presenceLoss_reseats : Reseats b w (presenceLoss b w) := by
  have noted : ∀ x : Bay, x.state = (w.st.bay b).state → Reseats b w (w.setBay b x) := fun x hx => .setBay (by rw [hx])
  unfold presenceLoss
  simp only [Work.st_setBay, State.bay_setBay_same, Work.setBay_setBay, enterEmpty_eq]
  have left : ∀ x : Bay, (w.st.bay b).state ≠ .queued → x.state ≠ .queued → Reseats b w (w.setBay b x) :=
    fun x h hx => .setBay (iff_of_false hx h)
  cases hst : (w.st.bay b).state with
  | empty => exact noted _ hst.symm
  | settling | idle => exact left _ (by simp [hst]) (by simp [emptied])
  | queued => exact .withdrawn (by simp [emptied])
  | surge | run => exact (noted _ hst.symm).trans (.removePower (by simp [Bay.raise]) (by simp))
  | drain =>
    dsimp only
    split
    · exact noted _ hst.symm
    · exact noted _ hst.symm
  | fault =>
    dsimp only
    split <;> exact left _ (by simp [hst]) (by simp [emptied])

theorem powerGoodSeen_reseats (h : (w.st.bay b).state ≠ .queued) : Reseats b w (powerGoodSeen b w) := by
  unfold powerGoodSeen
  dsimp only
  split
  · exact .refl b w
  · next p _ =>
    have seen : Reseats b w (w.setBay b { w.st.bay b with lookPg := false, spin := some { p with pgSeen := true } }) :=
      .setBay .rfl
    split
    · exact seen.trans (.enterRun (by simpa using h))
    · exact seen

/-! ### The bay timers -/

theorem debounceExpiry_reseats (h : (w.st.bay b).state ≠ .queued) : Reseats b w (debounceExpiry b w) := by
  have raised : Reseats b w (w.setBay b ((w.st.bay b).raise .onlyPresence)) := .setBay .rfl
  exact raised.trans (.enterIdle (by simpa [Bay.raise] using h))

theorem drainExpiry_reseats : Reseats b w (drainExpiry b w) := by
  have taken : Reseats b w (w.setBay b { w.st.bay b with drainDue := false }) := .setBay .rfl
  refine taken.trans ?_
  unfold drainExpiry
  dsimp only
  generalize w.setBay b { w.st.bay b with drainDue := false } = w
  split
  · next h =>
    have out : (w.st.bay b).state ≠ .queued := by rw [h]; simp
    split
    · split
      · exact .enterSettling out
      · exact .enterIdle out
    · exact .enterEmpty out
  · next h =>
    split
    · have retried : Reseats b w
          (w.setBay b { w.st.bay b with retries := (w.st.bay b).retries + 1, cause := .none }) := .setBay .rfl
      exact retried.trans (.leaveUnpowered (by simp [h]))
    · exact .refl b w
  all_goals exact .refl b w

theorem expiry_reseats : Reseats b w (expiry b w) := by
  unfold expiry
  split
  · next h =>
    refine debounceExpiry_reseats ?_
    simp only [debounceDue, Bool.and_eq_true, decide_eq_true_eq] at h
    simp [h.1]
  · split
    · exact drainExpiry_reseats
    · exact .refl b w

theorem expiryHere_reseats : Reseats b w (expiryHere b w) := by
  unfold expiryHere
  split
  · exact expiry_reseats
  · exact .refl b w

theorem takeExpiries_staged (s : State) : Staged s (takeExpiries s) :=
  event_staged (f := sweep expiryHere allBays) (stagedWork_foldl (fun _ _ => expiryHere_reseats.staged) _ _)

theorem surgeDeadline_reseats (h : (w.st.bay b).state ≠ .queued) : Reseats b w (surgeDeadline b w) := by
  unfold surgeDeadline
  dsimp only
  split
  · exact .refl b w
  · split
    · exact .enterRun h
    · exact .setBay .rfl

theorem powerGoodDeadline_reseats (h : (w.st.bay b).state ≠ .queued) : Reseats b w (powerGoodDeadline b w) := by
  unfold powerGoodDeadline
  dsimp only
  split
  · exact .refl b w
  · split
    · exact .setBay .rfl
    · exact .enterFault h _

theorem resetHoldExpiry_reseats : Reseats b w (resetHoldExpiry b w) := .setBay .rfl

/-! ### The requests of one bay -/

theorem setIntent_reseats (i : MgmtIntent) : Reseats b w (setIntent i b w) := by
  have stored : Reseats b w (w.setBay b { w.st.bay b with mgmtIntent := i }) := .setBay .rfl
  exact stored.trans .evaluate

theorem setExpedite_reseats : Reseats b w (setExpedite b w) := .setBay .rfl

theorem cycleBay_reseats (h : (w.st.bay b).state ≠ .queued) : Reseats b w (cycleBay b w) :=
  (Reseats.removePower h (by simp)).trans setExpedite_reseats

theorem clearFault_reseats (h : (w.st.bay b).state = .fault) : Reseats b w (clearFault b w) := by
  have out : (w.st.bay b).state ≠ .queued := by simp [h]
  have cleared : Reseats b w (w.setBay b { w.st.bay b with cause := .none, retries := 0 }) := .setBay .rfl
  unfold clearFault
  dsimp only
  split
  · exact .setBay (iff_of_false (by simp) out)
  · exact cleared.trans (.leaveUnpowered (by simpa using out))

theorem storeReport_reseats (v : Int) (h : (w.st.bay b).state = .run) : Reseats b w (storeReport b v w) := by
  unfold storeReport
  extract_lets value hot crossed stored marked
  have kept : Reseats b w marked ∧ (marked.st.bay b).state ≠ .queued := by
    have temp : Reseats b w stored := .setTemp _
    have running : (stored.st.bay b).state = .run := h
    unfold marked
    split
    · exact ⟨temp.trans (.setBay .rfl), by simp [Work.map, State.raise, Bay.raise, running]⟩
    · exact ⟨temp, by simp [running]⟩
  obtain ⟨reseated, out⟩ := kept
  split
  · split
    · exact reseated.trans (.enterFault out _)
    · exact reseated
  · exact reseated

end

theorem takeReport_staged (n : Nat) (v : BitVec 16) (w : Work) : StagedWork w (takeReport n v w) := by
  unfold takeReport
  split
  · exact .refl w
  · split
    · split
      · next h =>
        simp only [Bool.and_eq_true, decide_eq_true_eq] at h
        exact (storeReport_reseats _ h.2).staged
      · exact .refl w
    · exact .refl w

/-- One request byte of a frame (R161). -/
theorem applyRequest_staged (w : Work) (q : BayIx × Byte) : StagedWork w (applyRequest w q) := by
  unfold applyRequest
  split
  · have coded : StagedWork w (w.map fun s => s.setBayLights q.1 { s.bayLights q.1 with loopCode := requestCode q.2 }) :=
      Aside.map (.same rfl rfl)
    refine coded.trans ?_
    generalize w.map _ = w
    dsimp only
    split
    · exact .refl w
    · have noted : Reseats q.1 w (w.setBay q.1 { w.st.bay q.1 with loopIntent := requestIntent q.2 }) := .setBay .rfl
      exact (noted.trans .evaluate).staged
  · exact .refl w

/-! ### The events as the part takes them -/

/-- An event that is taken where it is due. -/
theorem dueEvent_staged {due : Bool} {f : Work → Work} {s : State}
    (h : due = true → StagedWork (Work.start s) (f (Work.start s))) : Staged s (if due = true then event f s else s) := by
  split
  · exact event_staged (h ‹_›)
  · exact .refl s

theorem takePresenceActive_staged (b : BayIx) (s : State) : Staged s (takePresenceActive b s) :=
  dueEvent_staged fun _ => presenceActive_reseats.staged

theorem takePresenceLoss_staged (b : BayIx) (s : State) : Staged s (takePresenceLoss b s) :=
  dueEvent_staged fun _ => presenceLoss_reseats.staged

theorem takePowerGoodSeen_staged (b : BayIx) (s : State) : Staged s (takePowerGoodSeen b s) :=
  dueEvent_staged fun h => (powerGoodSeen_reseats (by simp [powerGoodSeenDue_surge h])).staged

theorem not_queued_of_powered {x : Bay} (h : x.powered = true) : x.state ≠ .queued := by
  rcases (Bay.powered_iff x).mp h with h | h <;> simp [h]

theorem takePowerGoodLost_staged (b : BayIx) (s : State) : Staged s (takePowerGoodLost b s) :=
  dueEvent_staged fun h => (Reseats.enterFault (not_queued_of_powered (powerGoodLostDue_powered h)) _).staged

theorem takeSwitchFault_staged (b : BayIx) (s : State) : Staged s (takeSwitchFault b s) :=
  dueEvent_staged fun h => (Reseats.enterFault (not_queued_of_powered (switchFaultDue_powered h)) _).staged

theorem takeSurgeDeadline_staged (b : BayIx) (s : State) : Staged s (takeSurgeDeadline b s) :=
  dueEvent_staged fun h => (surgeDeadline_reseats (by simp [surgeDeadlineDue_surge h])).staged

theorem takePgDeadline_staged (b : BayIx) (s : State) : Staged s (takePgDeadline b s) :=
  dueEvent_staged fun h => (powerGoodDeadline_reseats (by simp [pgDeadlineDue_surge h])).staged

theorem takeResetHold_staged (b : BayIx) (s : State) : Staged s (takeResetHold b s) :=
  dueEvent_staged fun _ => (resetHoldExpiry_reseats (w := Work.start s)).staged

theorem takeEdge_aside (b : BayIx) (s : State) : Aside s (takeEdge b s) := by
  unfold takeEdge
  split
  · exact .same rfl rfl
  · exact .refl s

theorem takeStretch_aside (b : BayIx) (s : State) : Aside s (takeStretch b s) := by
  unfold takeStretch
  split
  · exact .same rfl rfl
  · exact .refl s

/-- The stagger boundary begins a frame with no admissions under a pace in its range (R53). -/
theorem boundary_pace {s : State} (h : PaceRespected s) (now : Nat) :
    PaceRespected { s with sched := s.sched.boundary now } := by
  obtain ⟨hpace, hpending, -, -⟩ := h
  have wraps : (s.sched.frameNumber + 1) % 65536 ≤ 65535 := by omega
  refine ⟨?_, nofun, Nat.zero_le _, wraps⟩
  show PaceInRange (s.sched.pendingPace.getD s.sched.pace)
  cases hp : s.sched.pendingPace with
  | none => exact hpace
  | some p => exact hpending p hp

theorem takeBoundary_staged (s : State) : Staged s (takeBoundary s) := by
  refine event_staged (f := fun w => (w.map fun s => { s with sched := s.sched.boundary s.time.now }).owe) ?_
  exact (stagedWork_map rfl (fun _ => rfl) fun hp => boundary_pace hp _).owe

end Sys2Proof.Machine
end

section
/-! PROOFS. The scheduler is left aside by sensing, cooling, the indicators and the loop, and the tables and the resets of
TABLES and LOOP scope keep the queue and the stagger frame (R41, R50, R54, R57). -/

namespace Sys2Proof.Machine

open Sys2Proof.Safety

/-! ### Sensing (chapter 4) and cooling (chapter 5) -/

theorem chooseChannel_aside (s : State) : Aside s (chooseChannel s) := by
  unfold chooseChannel
  split <;> exact .same rfl rfl

theorem latch_aside (ch : ChannelIx) (s : State) : Aside s (latch ch s) := by
  unfold latch
  dsimp only
  split <;> exact .same rfl rfl

theorem endSlot_aside (s : State) : Aside s (endSlot s) := by
  unfold endSlot
  extract_lets t
  have latched : Aside s t := by
    unfold t
    split
    · split
      · exact .refl s
      · exact latch_aside _ s
    · exact .refl s
  have ended : Aside t { t with scan := { t.scan with slotDue := false } } := .same rfl rfl
  exact (latched.trans ended).trans (chooseChannel_aside _)

theorem turnStale_aside (b : BayIx) (s : State) : Aside s (turnStale b s) := by
  unfold turnStale
  split
  · next t _ =>
    have marked : Aside s (s.setTemp b (some { t with stale := true, hot := false })) := .same rfl rfl
    exact marked.trans (.setBay rfl)
  · exact .refl s

theorem takeStale_staged (b : BayIx) (s : State) : Staged s (takeStale b s) := by
  unfold takeStale
  split
  · exact event_staged_map (turnStale_aside b s)
  · exact .refl s

theorem rejudgeAll_aside (s : State) : Aside s (rejudgeAll s) := by
  refine ⟨by rw [rejudgeAll_eq], fun b => ?_⟩
  simpa [rejudgeAll_eq, State.bay, Vector.get_eq_getElem] using (judgedBay_alike s b).1

theorem mapZones_aside (f : ZoneIx → Zone → Zone) (s : State) : Aside s (mapZones f s) := .same rfl rfl

theorem mapFans_aside (g : FanIx → Fan → Fan) (s : State) : Aside s (mapFans g s) := .same rfl rfl

/-- The reserve handed over and the holds recomputed. -/
theorem handOver_aside (s : State) : Aside s (recomputeHolds (handReserve s)) :=
  Aside.trans (t := handReserve s) (.same rfl rfl) (mapZones_aside _ _)

theorem coolingStages_aside (s : State) : Aside s (coolingStages s) := by
  have tach : Aside s (stageTach s) := Aside.trans (mapFans_aside _ s) (by unfold stageTach; exact mapZones_aside _ _)
  have temps : ∀ t, Aside t (stageTemps t) := fun t => by unfold stageTemps; exact mapZones_aside _ t
  have demands : ∀ t, Aside t (stageDemands t) := fun t => by unfold stageDemands; exact mapZones_aside _ t
  have fans : ∀ t, Aside t (stageFans t) := fun t => by unfold stageFans; exact mapFans_aside _ t
  have period : ∀ t, Aside t (nextPeriod t) := fun t => by unfold nextPeriod; exact .same rfl rfl
  exact ((((tach.trans (temps _)).trans (demands _)).trans (fans _)).trans (period _)).trans (handOver_aside _)

theorem writeSensor_aside (ch : ChannelIx) (c : SensorCfg) (s : State) : Aside s (writeSensor ch c s) := by
  rw [writeSensor_eq]
  split <;> exact .same rfl rfl

theorem writeFan_aside (f : FanIx) (c : FanCfg) (s : State) : Aside s (writeFan f c s) := by
  have written : Aside s (withFan f c s) := .same rfl rfl
  have spread : ∀ t, Aside t (spreadFailure t) := fun t => (mapZones_aside _ t).trans (mapFans_aside _ _)
  rw [writeFan_eq]
  exact (written.trans (spread _)).trans (handOver_aside _)

/-! ### Table writes (R178) -/

theorem resolveMap_aside (s : State) : Aside s (resolveMap s) := by
  unfold resolveMap
  exact .same rfl rfl

theorem writeBayCfg_staged (b : BayIx) (c : BayCfg) (w : Work) : StagedWork w (writeBayCfg b c w) := by
  unfold writeBayCfg
  extract_lets old written mapped owed acted
  have stored : StagedWork w mapped := by
    have h : StagedWork w written := Aside.map (.same rfl rfl)
    unfold mapped
    split
    · exact h.trans (resolveMap_aside _).map
    · exact h
  refine stored.trans ?_
  split
  · have zone : StagedWork mapped owed := by
      unfold owed
      split
      · exact (StagedWork.refl _).owe
      · exact .refl _
    have policy : StagedWork owed acted := by
      unfold acted
      split
      · exact (Reseats.evaluate (b := b)).staged
      · exact .refl _
    refine (zone.trans policy).trans ?_
    split
    · exact (Reseats.reresolve (b := b)).staged
    · exact .refl _
  · exact .refl _

theorem writePower_staged (c g m : Nat) (w : Work) : StagedWork w (writePower c g m w) := by
  have written : StagedWork w (w.map (withPower c g m)) := Aside.map (.same rfl rfl)
  unfold writePower
  dsimp only
  split
  · exact written.owe
  · exact written

theorem writeCooling_staged (p u d l : Nat) (w : Work) : StagedWork w (writeCooling p u d l w) := by
  have written : StagedWork w (w.map (withCooling p u d l)) := Aside.map (.same rfl rfl)
  unfold writeCooling
  dsimp only
  split
  · exact written.trans (Aside.map (rejudgeAll_aside _))
  · exact written

/-- A pair in its range may wait for the next boundary (R54). -/
theorem writePace_staged {p : Pace} (h : PaceInRange p) (w : Work) : StagedWork w (writePace p w) :=
  stagedWork_map rfl (fun _ => rfl) fun ⟨hpace, _, hle, hframe⟩ => ⟨hpace, fun _ hq => Option.some.inj hq ▸ h, hle, hframe⟩

/-- A put that stores keeps both invariants. -/
def Put.Stages (p : Put) : Prop := ∀ clamped f, p = .store clamped f → ∀ w, StagedWork w (f w)

theorem Put.stages_refuse (r : Result) : (Put.refuse r).Stages := fun _ _ h => nomatch h

theorem Put.stages_store {f : Work → Work} (h : ∀ w, StagedWork w (f w)) (clamped : Bool) :
    (Put.store clamped f).Stages := by
  rintro _ _ ⟨⟩
  exact h

theorem Put.stages_of {α : Type} {f : α → Work → Work} (h : ∀ v w, StagedWork w (f v w)) (x : Option (α × Bool)) :
    (Put.of x f).Stages := by
  unfold Put.of
  split
  · exact Put.stages_store (h _) _
  · exact Put.stages_refuse _

theorem putBayCfg_stages (b : BayIx) (e : List Byte) (s : State) : (putBayCfg b e s).Stages := by
  unfold putBayCfg
  split
  · exact Put.stages_refuse _
  · split
    · exact Put.stages_refuse _
    · exact Put.stages_store (writeBayCfg_staged b _) _

theorem putPart_stages (i : Nat) (e : List Byte) : (putPart i e).Stages := by
  unfold putPart
  split
  · exact Put.stages_store (writePower_staged _ _ _) _
  · obtain ⟨n1, n2⟩ := clampNat_inRange (lo := 100) (hi := 10000) (by omega) (wordAt e 0)
    obtain ⟨l1, l2⟩ := clampNat_inRange (lo := 1) (hi := 8) (by omega) (byteAt e 2)
    exact Put.stages_store (writePace_staged ⟨n1, n2, l1, l2⟩) _
  · exact Put.stages_store (fun _ => Aside.map (.same rfl rfl)) _
  · split
    · exact Put.stages_refuse _
    · exact Put.stages_store (fun _ => Aside.map (.same rfl rfl)) _
  · exact Put.stages_store (writeCooling_staged _ _ _ _) _
  · exact Put.stages_store (fun _ => Aside.map (.same rfl rfl)) _

theorem putEntry_stages (table i : Nat) (e : List Byte) (s : State) : (putEntry table i e s).Stages := by
  unfold putEntry
  split
  · exact putBayCfg_stages _ e s
  · exact Put.stages_of (fun _ w => Aside.map (.same rfl rfl)) _
  · refine Put.stages_of (fun c w => ?_) _
    have written : StagedWork w (w.map fun s => { s with sched := { s.sched with classes := s.sched.classes.set (Fin.ofNat 8 i) c } }) :=
      stagedWork_map rfl (fun _ => rfl) id
    exact written.owe
  · exact Put.stages_of (fun _ w => Aside.map (.same rfl rfl)) _
  · exact Put.stages_of (fun _ w => Aside.map (.same rfl rfl)) _
  · exact Put.stages_store (fun _ => Aside.map (.same rfl rfl)) _
  · exact Put.stages_store (fun w => Aside.map (f := fun s => recomputeHolds (withZone _ _ s))
      (Aside.trans (t := withZone _ _ w.st) (.same rfl rfl) (mapZones_aside _ _))) _
  · exact Put.stages_of (fun c w => (writeSensor_aside _ c w.st).map) _
  · exact Put.stages_of (fun c w => (writeFan_aside _ c w.st).map) _
  · exact putPart_stages i e
  · exact Put.stages_refuse _

/-! ### The resets of TABLES and LOOP scope (R183, R184) -/

/-- The restored tables leave the queue, the bay states and the frame, and the default pair waits (R57). -/
theorem restoreAll_staged (w : Work) : StagedWork w (w.map restoreAll) := by
  obtain ⟨-, hsup, hsched, -⟩ := restoreAll_blocks w.st
  refine stagedWork_map (by rw [hsched]) (fun b => ?_) fun ⟨hpace, _, hle, hframe⟩ => ?_
  · rw [restoreAll_bay]
    exact (rejudgedRecord_alike w.st b).1
  · rw [PaceRespected, hsched]
    refine ⟨hpace, fun p hp => ?_, hle, hframe⟩
    rw [← Option.some.inj hp]
    decide

theorem restoreBays_staged (old : State) (w : Work) : StagedWork w (restoreBays old w) := by
  rw [restoreBays_eq]
  refine (stagedWork_foldl (fun w b => ?_) _ _).trans (stagedWork_foldl (fun w b => ?_) _ _)
  · have h : Reseats b w (restoreOverride old b w) := ⟨restoreOverride_edits .., (restoreOverride_moved ..).seat⟩
    exact h.staged
  · have h : Reseats b w (restorePolicy old b w) := ⟨restorePolicy_edits .., (restorePolicy_moved ..).seat⟩
    exact h.staged

theorem resetTables_staged (s : State) : Staged s (resetTables s) :=
  event_staged (f := fun w => (restoreBays s (w.map restoreAll)).owe)
    ((restoreAll_staged _).trans (restoreBays_staged s _)).owe

theorem resetLoop_aside (s : State) : Aside s (resetLoop s) :=
  Aside.trans (t := { s with loop := { s.loop with position := none, reply := none, replyPlaced := false }, window := none })
    (.same rfl rfl) (resolveMap_aside _)

/-! ### The indicators and the loop (chapters 6 and 7) -/

theorem resolveLights_aside (s : State) : Aside s (resolveLights s) := .same rfl rfl

theorem Aside.loop {s : State} (x : LoopEngine) : Aside s { s with loop := x } := .same rfl rfl

theorem captureByte_aside (n : Nat) (b : Byte) (s : State) : Aside s (captureByte n b s) := by
  have request : ∀ (slot : Nat) (t : State), Aside t (captureRequest slot b t) := by
    intro slot t
    unfold captureRequest
    split
    · exact .loop _
    · exact .refl t
  unfold captureByte
  dsimp only
  have first : Aside s (if n = 19 then fixMap s else s) := by
    split
    · exact .loop _
    · exact .refl s
  split
  · exact .loop _
  split
  · exact .loop _
  split
  · exact .loop _
  split
  · unfold placeReply
    split
    · split
      · exact .loop _
      · exact .refl s
    · exact .refl s
  split
  · exact .refl s
  split
  · split
    · exact first.trans (request _ _)
    · exact first
  split
  · unfold openCell
    split
    · split
      · exact .loop _
      · exact .refl s
    · exact .refl s
  split
  · exact .loop _
  split
  · exact .loop _
  · exact .loop _

theorem receive_aside (x : LoopSym) (s : State) : Aside s (receive x s).2 := by
  have counted : ∀ b, Aside s (frameByte b s).2 := fun b => (captureByte_aside s.loop.frame.count b s).trans (.loop _)
  unfold receive
  split
  · split
    · exact .loop _
    all_goals exact .refl s
  · split
    · split
      · exact .loop _
      · exact counted _
    · split
      · exact .loop _
      · exact .loop _
    all_goals exact .loop _
  · split
    · exact .loop _
    all_goals exact .refl s

theorem breakLoop_aside (s : State) : Aside s (breakLoop s) := by
  unfold breakLoop
  dsimp only
  split <;> exact .same rfl rfl

theorem latchPosition_aside (flags hop : Byte) (s : State) : Aside s (latchPosition flags hop s) := by
  unfold latchPosition
  split
  · extract_lets p
    split
    · exact .refl s
    · exact .same rfl rfl
  · exact .refl s

theorem holdPart_aside (s : State) : Aside s (holdPart s) := .same rfl rfl

/-- The scan and the count of a tick. -/
theorem countTick_aside (pins : Pins) (s : State) : Aside s (countTick pins s) :=
  ⟨rfl, fun b => by simp [countTick, State.bay, Vector.get_eq_getElem, Bay.tick]⟩

theorem tickLights_aside (l : LightsOrder) (s : State) : Aside s (tickLights l s) := by
  cases l <;> exact .same rfl rfl

end Sys2Proof.Machine
end

section
/-! PROOFS. The messages, the loop, the tick and the commands keep the queue in agreement with the bay states and the
stagger frame within its limit (R44, R52, R53, R56). -/

namespace Sys2Proof.Machine

open Sys2Proof.Safety

/-! ### The messages (chapter 8) -/

theorem staged_accept {s t : State} (h : Staged s t) : Staged s (accept t).st := h

theorem onNamedBay_staged {s : State} {k : BayIx → Answer} (h : ∀ b, Staged s (k b).st) (bay : Byte) :
    Staged s (onNamedBay bay s k).st := by
  unfold onNamedBay
  split
  · exact h _
  · exact .refl s

theorem onWindow_staged {k : State → BayIx → State} (h : ∀ s b, Aside s (k s b)) (start stop : Byte) (s : State) :
    Staged s (onWindow start stop s k).st := by
  unfold onWindow
  split
  · exact (foldl_related Aside.refl (fun _ _ _ => Aside.trans) h _ s).staged
  · exact .refl s

/-- A bay message that is accepted with the event of one bay, or refused. -/
theorem acceptEvent_staged {p : Prop} [Decidable p] {s : State} {b : BayIx} {f : Work → Work} (r : Result)
    (h : p → Reseats b (Work.start s) (f (Work.start s))) :
    Staged s (if p then accept (event f s) else refuse r s).st := by
  split
  · exact event_staged (h ‹_›).staged
  · exact .refl s

theorem msgIntent_staged (i : MgmtIntent) (bay : Byte) (s : State) : Staged s (msgIntent i bay s).st := by
  refine onNamedBay_staged (fun b => ?_) bay
  rw [← ite_not]
  exact acceptEvent_staged _ fun _ => setIntent_reseats i

theorem msgExpedite_staged (bay : Byte) (s : State) : Staged s (msgExpedite bay s).st := by
  refine onNamedBay_staged (fun b => ?_) bay
  rw [← ite_not]
  exact acceptEvent_staged _ fun _ => setExpedite_reseats.trans (setIntent_reseats .on)

theorem msgCycle_staged (bay : Byte) (s : State) : Staged s (msgCycle bay s).st :=
  onNamedBay_staged (fun _ => acceptEvent_staged _ fun h => cycleBay_reseats (not_queued_of_powered h)) bay

theorem msgClear_staged (bay : Byte) (s : State) : Staged s (msgClear bay s).st :=
  onNamedBay_staged (fun _ => acceptEvent_staged _ fun h => clearFault_reseats h) bay

theorem msgBayPower_staged (bay action : Byte) (s : State) : Staged s (msgBayPower bay action s).st := by
  unfold msgBayPower
  split
  · exact msgIntent_staged _ _ s
  · exact msgExpedite_staged _ s
  · exact msgIntent_staged _ _ s
  · exact msgIntent_staged _ _ s
  · exact msgCycle_staged _ s
  · exact msgClear_staged _ s
  · exact .refl s

theorem msgBayReset_staged (bay : Byte) (s : State) : Staged s (msgBayReset bay s).st := by
  refine onNamedBay_staged (fun b => ?_) bay
  have held : Aside s (resetBay b s) := by
    unfold resetBay
    exact .setBay rfl
  split
  · exact held.staged
  · exact .refl s

theorem msgBayClass_staged (bay cls : Byte) (s : State) : Staged s (msgBayClass bay cls s).st := by
  refine onNamedBay_staged (fun b => ?_) bay
  split
  · exact .refl s
  · next o _ =>
    have written : StagedWork (Work.start s) ((Work.start s).map fun s => s.setBayCfg b { s.bayCfg b with override := o }) :=
      Aside.map (.same rfl rfl)
    have classed : Staged s (event (classBay b o) s) :=
      event_staged (f := classBay b o) (written.trans (Reseats.reresolve (b := b)).staged)
    split
    · exact .refl s
    · exact .refl s
    · exact .refl s
    all_goals exact classed

theorem msgAttentionClear_staged (start stop kinds : Byte) (s : State) : Staged s (msgAttentionClear start stop kinds s).st := by
  unfold msgAttentionClear
  split
  · exact .refl s
  · refine onWindow_staged (fun t b => ?_) start stop s
    exact .setBay rfl

theorem msgAttentionMask_staged (start stop setMask clearMask : Byte) (s : State) :
    Staged s (msgAttentionMask start stop setMask clearMask s).st := by
  unfold msgAttentionMask
  split
  · refine onWindow_staged (fun t b => ?_) start stop s
    exact .same rfl rfl
  · exact .refl s

theorem msgHold_staged (start stop : Byte) (h : Option (Fin 32)) (s : State) : Staged s (msgHold start stop h s).st := by
  refine onWindow_staged (fun t b => ?_) start stop s
  exact .same rfl rfl

theorem msgIndicatorHold_staged (start stop code : Byte) (s : State) : Staged s (msgIndicatorHold start stop code s).st := by
  unfold msgIndicatorHold
  split
  · exact msgHold_staged start stop _ s
  · split
    · exact msgHold_staged start stop _ s
    · exact .refl s

theorem msgBlinkSync_staged (s : State) : Staged s (msgBlinkSync s).st := ⟨id, id⟩

theorem msgDriveTemperature_staged (first : Byte) (v0 v1 v2 : BitVec 16) (s : State) :
    Staged s (msgDriveTemperature first v0 v1 v2 s).st :=
  onNamedBay_staged (fun _ => event_staged
    (f := fun w => takeReport (first.toNat + 2) v2 (takeReport (first.toNat + 1) v1 (takeReport first.toNat v0 w)))
    (((takeReport_staged _ v0 _).trans (takeReport_staged _ v1 _)).trans (takeReport_staged _ v2 _))) first

theorem msgTableWindow_staged (table start stop : Byte) (s : State) : Staged s (msgTableWindow table start stop s).st := by
  unfold msgTableWindow
  split
  · exact .refl s
  · exact ⟨id, id⟩

theorem msgTablePut_staged (index : Byte) (entry : List Byte) (s : State) : Staged s (msgTablePut index entry s).st := by
  unfold msgTablePut
  split
  · exact .refl s
  · split
    · exact .refl s
    · split
      · exact .refl s
      · next clamped f hput =>
        have put : Staged s (event f s) := event_staged (putEntry_stages _ _ entry s clamped f hput _)
        exact put.trans ⟨id, id⟩

theorem msgTableGet_staged (index : Byte) (s : State) : Staged s (msgTableGet index s).st := by
  unfold msgTableGet
  split
  · exact .refl s
  · split
    · exact .refl s
    · exact ⟨id, id⟩

theorem activateCurve_aside (z : ZoneIx) (s : State) : Aside s (activateCurve z s) := by
  unfold activateCurve
  exact .same rfl rfl

theorem msgCurveActivate_staged (zone : Byte) (s : State) : Staged s (msgCurveActivate zone s).st := by
  unfold msgCurveActivate
  split
  · exact .refl s
  · split
    · exact staged_accept (activateCurve_aside _ s).staged
    · exact .refl s

theorem msgResetTables_staged (s : State) : Staged s (msgResetTables s).st :=
  staged_accept (resetTables_staged s)

theorem msgResetLoop_staged (s : State) : Staged s (msgResetLoop s).st :=
  staged_accept (resetLoop_aside s).staged

theorem fullReset_staged (cause : ResetCause) (s : State) : Staged s (fullReset cause s) := by
  obtain ⟨-, pace, -⟩ := invariantsHoldAtReset
  have fresh : (fullReset cause s).sched = State.reset.sched := rfl
  refine ⟨fun _ => fullReset_queueMatches cause s, fun _ => ?_⟩
  rwa [PaceRespected, fresh]

/-! ### The readings leave the part as it was (R171) -/

section Readings

variable (s : State) (n : Byte)

theorem msgIdentify_staged : Staged s (msgIdentify s).st := ⟨id, id⟩

theorem msgBayRead_st : (msgBayRead n s).st = s := by
  unfold msgBayRead onNamedBay
  split <;> rfl

theorem msgPowerRead_st : (msgPowerRead n s).st = s := by
  unfold msgPowerRead
  split <;> rfl

theorem msgQueueRead_st : (msgQueueRead n s).st = s := by
  unfold msgQueueRead
  split <;> rfl

theorem msgFanRead_st : (msgFanRead n s).st = s := by
  unfold msgFanRead
  split <;> rfl

theorem msgSensorRead_st : (msgSensorRead n s).st = s := by
  unfold msgSensorRead
  split <;> rfl

theorem msgZoneRead_st : (msgZoneRead n s).st = s := by
  unfold msgZoneRead
  split <;> rfl

end Readings

theorem staged_of_eq {s t : State} (h : t = s) : Staged s t := h ▸ .refl t

theorem requestOf_staged (kind : Byte) (args : List Byte) (s : State) : Staged s ((requestOf kind args).2 s).st := by
  unfold requestOf
  dsimp only
  split
  · exact msgIdentify_staged s
  · exact staged_of_eq (msgBayRead_st s _)
  · exact msgBayPower_staged _ _ s
  · exact msgBayReset_staged _ s
  · exact msgBayClass_staged _ _ s
  · exact msgAttentionClear_staged _ _ _ s
  · exact msgAttentionMask_staged _ _ _ _ s
  · exact msgIndicatorHold_staged _ _ _ s
  · exact msgBlinkSync_staged s
  · exact msgDriveTemperature_staged _ _ _ _ s
  · exact msgTableWindow_staged _ _ _ s
  · exact msgTablePut_staged _ _ s
  · exact msgTableGet_staged _ s
  · exact msgCurveActivate_staged _ s
  · exact staged_of_eq (msgPowerRead_st s _)
  · exact staged_of_eq (msgQueueRead_st s _)
  · exact staged_of_eq (msgFanRead_st s _)
  · exact staged_of_eq (msgSensorRead_st s _)
  · exact staged_of_eq (msgZoneRead_st s _)
  · unfold partReset
    split
    · exact msgResetLoop_staged s
    · exact msgResetTables_staged s
    · exact fullReset_staged .message s
    · exact .refl s
  · exact .refl s

theorem deliver_staged {dst tag kind : Byte} {acts : Bool} {run : State → Answer} (h : ∀ s, Staged s (run s).st)
    (s : State) : Staged s (deliver dst tag kind acts run s) :=
  deliver_kept (P := Staged s) (fun _ ht => ht.trans (Aside.loop _).staged) (fun _ _ ht => ht.trans (Aside.loop _).staged)
    (fun t ht => ht.trans (h t)) (.refl s)

/-! ### The end of a frame and the symbols (chapter 7) -/

theorem placedEnd_staged (s : State) : Staged s (placedEnd s) := by
  have released : Staged s (releaseReply s) := by
    unfold releaseReply
    split
    · exact (Aside.loop _).staged
    · exact .refl s
  have requested : ∀ t, Staged t (applyRequests t) := fun t =>
    event_staged (f := fun w => t.loop.frame.requests.foldl applyRequest w) (stagedWork_foldl applyRequest_staged _ _)
  unfold placedEnd executeCell
  refine (released.trans (requested _)).trans ?_
  split
  · exact deliver_staged (requestOf_staged _ _) _
  · exact .refl _

theorem goodEnd_staged (s : State) : Staged s (goodEnd s) := by
  have latched : ∀ flags hop t, Staged t (latchPosition flags hop (restartTimer t)) := fun flags hop t =>
    ((Aside.loop _).trans (latchPosition_aside flags hop (restartTimer t))).staged
  have taken : Staged s { s with loop := { s.loop with frameEnd := none } } := (Aside.loop _).staged
  unfold goodEnd
  dsimp only
  refine taken.trans ?_
  split
  · split
    · exact placedEnd_staged _
    · exact (placedEnd_staged _).trans (latched _ _ _)
  · exact latched _ _ _

theorem badEnd_aside (s : State) : Aside s (badEnd s) := .loop _

theorem takeFrameEnd_staged (s : State) : Staged s (takeFrameEnd s) := by
  unfold takeFrameEnd
  split
  · exact goodEnd_staged s
  · exact (badEnd_aside s).staged
  · exact .refl s

theorem takeSymbol_staged (x : LoopSym) (s : State) : Staged s (takeSymbol x s) :=
  ((takeFrameEnd_staged s).trans (receive_aside x _).staged).trans (Aside.loop _).staged

/-! ### The tick (R1) -/

theorem takeLoopTimer_aside (s : State) : Aside s (takeLoopTimer s) := .loop _

theorem takeCooling_staged (s : State) : Staged s (takeCooling s) := event_staged_map (coolingStages_aside s)

theorem takeConversion_staged (s : State) : Staged s (takeConversion s) := event_staged_map (endSlot_aside s)

theorem completeTick_staged (s : State) : Staged s (completeTick s) := by
  refine completeTick_kept (P := Staged s) (fun t ht => ht.trans (takeFrameEnd_staged t)) ?_ ?_ (.refl s)
  · intro k hk t b ht _
    refine ht.trans ?_
    simp only [List.mem_cons, List.not_mem_nil, or_false] at hk
    rcases hk with rfl | rfl | rfl | rfl | rfl | rfl | rfl | rfl | rfl | rfl | rfl
    · exact takePresenceActive_staged b t
    · exact takePresenceLoss_staged b t
    · exact takePowerGoodSeen_staged b t
    · exact takePowerGoodLost_staged b t
    · exact takeSwitchFault_staged b t
    · exact (takeStretch_aside b t).staged
    · exact (takeEdge_aside b t).staged
    · exact takeSurgeDeadline_staged b t
    · exact takePgDeadline_staged b t
    · exact takeResetHold_staged b t
    · exact takeStale_staged b t
  · intro k hk t ht
    refine ht.trans ?_
    simp only [List.mem_cons, List.not_mem_nil, or_false] at hk
    rcases hk with rfl | rfl | rfl | rfl | rfl | rfl
    · exact takeExpiries_staged t
    · exact takeBoundary_staged t
    · exact takeCooling_staged t
    · exact takeConversion_staged t
    · exact (takeLoopTimer_aside t).staged
    · exact (resolveLights_aside t).staged

theorem tick_staged (pins : Pins) (l : LightsOrder) (s : State) : Staged s (tick pins l s) := by
  unfold tick
  exact (completeTick_staged s).trans ((countTick_aside pins _).trans (tickLights_aside _ _)).staged

/-! ### The commands -/

theorem execResetTriggerEnd_staged {trigger : ResetTrigger} {s t : State} (h : execResetTriggerEnd trigger s = .next t) :
    Staged s t := by
  have ended : ∀ u : State, Staged s u → ∀ c,
      (if u.inReset = true then .next u else .next (fullReset c u) : Out) = .next t → Staged s t := by
    intro u hu c h
    split at h <;> cases h
    · exact hu
    · exact hu.trans (fullReset_staged c u)
  unfold execResetTriggerEnd at h
  split at h
  · cases trigger with
    | powerOn => exact ended { s with rst := { s.rst with powerOn := false } } ⟨id, id⟩ _ h
    | pin => exact ended { s with rst := { s.rst with pin := false } } ⟨id, id⟩ _ h
  · cases h
    exact .refl s

section Rows

variable {s t : State}

/-- A message row (R162; log 12). -/
theorem messageRow_staged {dst tag kind : Byte} {acts : Bool} {run : State → Answer} (h : ∀ s, Staged s (run s).st)
    (ht : live s (deliver dst tag kind acts run) = .next t) : Staged s t :=
  live_kept (P := Staged s) (fun u hu => hu.trans (deliver_staged h u)) (.refl s) ht

/-- A command of the part as a whole, taken where it is due. -/
theorem liveRow_staged {due : State → Prop} [DecidablePred due] {k : State → State} (hk : ∀ s, Staged s (k s))
    (h : live s (fun s => if due s then k s else s) = .next t) : Staged s t := by
  refine live_kept (P := Staged s) (fun u hu => ?_) (.refl s) h
  split
  · exact hu.trans (hk u)
  · exact hu

/-- A row of a bay line. -/
theorem bayRow_staged {k : BayIx → State → State} (hk : ∀ b s, Staged s (k b s)) {n : Nat} (h : onBay n s k = .next t) :
    Staged s t :=
  onBay_kept (P := Staged s) (fun b u hu _ => hu.trans (hk b u)) (.refl s) h

/-- The row of an expiry takes the expiries of the tick where its own is due. -/
theorem expiryRow_staged {due : State → BayIx → Bool} {n : Nat}
    (h : onBay n s (fun b s => if due s b = true then takeExpiries s else s) = .next t) : Staged s t := by
  refine bayRow_staged (fun b u => ?_) h
  split
  · exact takeExpiries_staged u
  · exact .refl u

/-- Every command keeps both invariants, row by row. -/
theorem exec_staged {c : Instr} (h : exec c s = .next t) : Staged s t := by
  cases c with
  | timebaseTick pins l =>
    change execTimebaseTick pins l s = _ at h
    unfold execTimebaseTick at h
    split at h <;> rw [← Host.Outcome.next.inj h]
    · exact ⟨id, id⟩
    · exact tick_staged pins l s
  | presenceActive => exact bayRow_staged takePresenceActive_staged h
  | presenceLoss => exact bayRow_staged takePresenceLoss_staged h
  | powerGoodSeen => exact bayRow_staged takePowerGoodSeen_staged h
  | powerGoodLost => exact bayRow_staged takePowerGoodLost_staged h
  | switchFault => exact bayRow_staged takeSwitchFault_staged h
  | driveActivityEdge => exact bayRow_staged (fun b u => (takeEdge_aside b u).staged) h
  | tachPulse => exact onFan_kept (P := Staged s) (k := countTach) (fun f u hu => hu.trans ⟨id, id⟩) (.refl s) h
  | debounceExpiry => exact expiryRow_staged h
  | drainExpiry => exact expiryRow_staged h
  | surgeDeadline => exact bayRow_staged takeSurgeDeadline_staged h
  | powerGoodDeadline => exact bayRow_staged takePgDeadline_staged h
  | resetHoldExpiry => exact bayRow_staged takeResetHold_staged h
  | staggerBoundary => exact liveRow_staged (due := fun s => boundaryDue s = true) takeBoundary_staged h
  | coolingUpdate => exact liveRow_staged (due := fun s => coolingDue s = true) takeCooling_staged h
  | conversionEnd => exact liveRow_staged (due := fun s => s.scan.slotDue = true) takeConversion_staged h
  | temperatureStale => exact bayRow_staged takeStale_staged h
  | loopTimerExpiry => exact liveRow_staged (due := fun s => loopTimerDue s = true) (fun u => (takeLoopTimer_aside u).staged) h
  | activityStretchExpiry => exact bayRow_staged (fun b u => (takeStretch_aside b u).staged) h
  | loopSymbol bits =>
    change execLoopSymbol bits s = _ at h
    unfold execLoopSymbol at h
    split at h
    · cases h
      exact .refl s
    · split at h <;> cases h
      · exact (Aside.loop _).staged
      · exact takeSymbol_staged _ s
  | goodFrameEnd => exact liveRow_staged (due := fun s => s.loop.frameEnd = some true) goodEnd_staged h
  | badCheckFrameEnd =>
    exact liveRow_staged (due := fun s => s.loop.frameEnd = some false) (fun u => (badEnd_aside u).staged) h
  | loopBreak =>
    change execLoopBreak s = _ at h
    unfold execLoopBreak at h
    split at h <;> cases h
    · exact (Aside.loop _).staged
    · exact (takeFrameEnd_staged s).trans (breakLoop_aside _).staged
  | loopClockReturn =>
    change execLoopClockReturn s = _ at h
    unfold execLoopClockReturn at h
    split at h <;> cases h
    · exact .refl s
    · exact (Aside.loop _).staged
  | identify => exact messageRow_staged msgIdentify_staged h
  | bayRead => exact messageRow_staged (fun u => staged_of_eq (msgBayRead_st u _)) h
  | bayPowerOn => exact messageRow_staged (msgIntent_staged _ _) h
  | bayPowerExpedite => exact messageRow_staged (msgExpedite_staged _) h
  | bayPowerOff => exact messageRow_staged (msgIntent_staged _ _) h
  | bayPowerRelease => exact messageRow_staged (msgIntent_staged _ _) h
  | bayPowerCycle => exact messageRow_staged (msgCycle_staged _) h
  | bayPowerClear => exact messageRow_staged (msgClear_staged _) h
  | bayReset => exact messageRow_staged (msgBayReset_staged _) h
  | bayClass => exact messageRow_staged (msgBayClass_staged _ _) h
  | attentionClear => exact messageRow_staged (msgAttentionClear_staged _ _ _) h
  | attentionMask => exact messageRow_staged (msgAttentionMask_staged _ _ _ _) h
  | indicatorHold => exact messageRow_staged (msgIndicatorHold_staged _ _ _) h
  | indicatorHoldRelease => exact messageRow_staged (msgHold_staged _ _ _) h
  | blinkSync => exact messageRow_staged msgBlinkSync_staged h
  | driveTemperature => exact messageRow_staged (msgDriveTemperature_staged _ _ _ _) h
  | tableWindow => exact messageRow_staged (msgTableWindow_staged _ _ _) h
  | tablePut => exact messageRow_staged (msgTablePut_staged _ _) h
  | tableGet => exact messageRow_staged (msgTableGet_staged _) h
  | curveActivate => exact messageRow_staged (msgCurveActivate_staged _) h
  | powerRead => exact messageRow_staged (fun u => staged_of_eq (msgPowerRead_st u _)) h
  | queueRead => exact messageRow_staged (fun u => staged_of_eq (msgQueueRead_st u _)) h
  | fanRead => exact messageRow_staged (fun u => staged_of_eq (msgFanRead_st u _)) h
  | sensorRead => exact messageRow_staged (fun u => staged_of_eq (msgSensorRead_st u _)) h
  | zoneRead => exact messageRow_staged (fun u => staged_of_eq (msgZoneRead_st u _)) h
  | partResetLoop => exact messageRow_staged msgResetLoop_staged h
  | partResetTables => exact messageRow_staged msgResetTables_staged h
  | partResetFull => exact messageRow_staged (fullReset_staged .message) h
  | powerOnReset =>
    cases h
    exact Staged.trans (t := { s with rst := { s.rst with powerOn := true, sawPowerOn := true } }) ⟨id, id⟩
      (holdPart_aside _).staged
  | resetPin =>
    cases h
    exact Staged.trans (t := { s with rst := { s.rst with pin := true } }) ⟨id, id⟩ (holdPart_aside _).staged
  | resetTriggerEnd => exact execResetTriggerEnd_staged h

/-- A step takes the queue of commands on and runs one of them. -/
theorem step_staged (h : step s = .next t) : Staged s t :=
  step_kept (P := Staged s) (fun _ _ hu => hu.trans ⟨id, id⟩) (fun _ _ _ hu hc => hu.trans (exec_staged hc)) (.refl s) h

end Rows

/-- Settles O54: every bay is seated in the queue of every event, and an attempt takes out the bays it admits. -/
theorem queueMatchesKept : Obligations.QueueMatchesKept := fun _ _ hs h => (step_staged h).queue hs

/-- Settles O55: an attempt counts a staged admission below the limit only, and a boundary begins at none. -/
theorem paceRespectedKept : Obligations.PaceRespectedKept := fun _ _ hs h => (step_staged h).pace hs

end Sys2Proof.Machine
end

section
/-! PROOFS. The stagger boundary (R53), and what an admission attempt does beside the order of its walk (R59, R61, R75,
R79). -/

namespace Sys2Proof.Machine

open Sys2Proof.Safety

/-- Settles O13: the boundary is one event that owes an attempt. -/
theorem staggerBoundaryCompletes : Obligations.StaggerBoundaryCompletes := by
  intro s hreset hdue pace
  have due : boundaryDue s = true := (boundaryDue_iff s).mpr hdue
  have taken : takeBoundary s = attempt { s with sched := s.sched.boundary s.time.now } :=
    event_map_owe (fun s => { s with sched := s.sched.boundary s.time.now }) s
  show execStaggerBoundary s = _
  rw [execStaggerBoundary, live_next hreset, if_pos due, taken]
  unfold pace Scheduler.boundary
  cases s.sched.pendingPace <;> rfl

/-! ### One admission -/

section Admission

variable {s t : State} {b : BayIx} {c : DriveClass}

theorem State.draw_queued (h : (s.bay b).state = .queued) : s.draw b = 0 :=
  State.draw_unpowered (by simp [Bay.powered, h])

/-- The draw of an admitted bay is its surge current (R66). -/
theorem draw_admitBay (h : (s.bay b).state = .queued) (hc : s.classOf b = some c) (d : BayIx) :
    (admitBay b c s).draw d = s.draw d + if d = b then c.surge else 0 := by
  by_cases hd : d = b
  · subst hd
    have cls : (admitBay d c s).classOf d = some c := by
      rw [← hc]
      exact State.classOf_congr rfl (by rw [admitBay_bay_same]; rfl)
    rw [State.draw_queued h, State.draw, cls]
    simp [admitted]
  · have other := admitBay_bay_other c s hd
    rw [if_neg hd, Nat.add_zero]
    exact State.draw_congr rfl (by rw [other]) (by rw [other])

/-- An admission adds the surge current to the committed draw (R67). -/
theorem committed_admitBay (h : (s.bay b).state = .queued) (hc : s.classOf b = some c) :
    (admitBay b c s).committed = s.committed + c.surge := by
  have sum : ∀ t : State, t.committed = ∑ d : BayIx, t.draw d := fun t => (Fin.sum_univ_def _).symm
  simp [sum, draw_admitBay h hc, Finset.sum_add_distrib]

theorem headroom_admitBay (h : (s.bay b).state = .queued) (hc : s.classOf b = some c) :
    (admitBay b c s).headroom = s.headroom - c.surge := by
  have limit : (admitBay b c s).budgetLimit = s.budgetLimit := rfl
  have reserve : (admitBay b c s).acct.fanReserve = s.acct.fanReserve := rfl
  rw [State.headroom, State.headroom, committed_admitBay h hc, limit, reserve]
  omega

/-- A list filtered by a test that changes for one of its members alone. -/
theorem length_filter_one {l : List BayIx} {p q : BayIx → Bool} (hn : l.Nodup) (hb : b ∈ l) (hp : p b = false)
    (h : ∀ d, d ≠ b → q d = p d) : (l.filter q).length = (l.filter p).length + if q b then 1 else 0 := by
  induction l with
  | nil => cases hb
  | cons d l ih =>
    obtain ⟨hd, hn⟩ := List.nodup_cons.mp hn
    by_cases e : d = b
    · subst e
      have same : l.filter q = l.filter p := List.filter_congr fun c hc => h c fun e => hd (e ▸ hc)
      cases hq : q d <;> simp [hp, hq, same]
    · have hb : b ∈ l := (List.mem_cons.mp hb).resolve_left (Ne.symm e)
      cases hq : p d <;> simp [h d e, hq, ih hn hb, Nat.add_right_comm]

end Admission

/-! ### The attempt -/

/-- The bay is of a staged class (R55). -/
def State.stagedBay (s : State) (b : BayIx) : Bool :=
  match s.classOf b with
  | some c => c.staged
  | none => false

/-- What an attempt that started at s has come to at t: the bays in SURGE that stood in the queue are those it has
admitted. -/
structure AttemptAt (s t : State) : Prop where
  matched : QueueMatches t
  only : OnlyAdmits s t
  free : ∀ b, (s.bay b).state = .queued → (t.bay b).state = .surge → s.zoneHeld b = false
  covered : (∃ b, (s.bay b).state = .queued ∧ (t.bay b).state = .surge) → 0 ≤ t.headroom
  queue : t.sched.queue = s.sched.queue.filter fun b => decide ((t.bay b).state ≠ .surge)
  count : t.sched.admissions =
    s.sched.admissions + (s.sched.queue.filter fun b => decide ((t.bay b).state = .surge) && s.stagedBay b).length

theorem AttemptAt.start {s : State} (h : QueueMatches s) : AttemptAt s s := by
  have waiting : ∀ b ∈ s.sched.queue, (s.bay b).state ≠ .surge := fun b hb => by simp [(h.2 b).mp hb]
  refine ⟨h, .refl s, fun b hq hs => absurd (hq.symm.trans hs) (by simp), fun ⟨b, hq, hs⟩ => absurd (hq.symm.trans hs) (by simp),
    (List.filter_eq_self.mpr fun b hb => decide_eq_true (waiting b hb)).symm, ?_⟩
  have none : (s.sched.queue.filter fun b => decide ((s.bay b).state = .surge) && s.stagedBay b) = [] :=
    List.filter_eq_nil_iff.mpr fun b hb => by simp [waiting b hb]
  rw [none]
  rfl

/-- One more admission of the attempt. -/
theorem AttemptAt.admission {s t : State} {b : BayIx} {c : DriveClass} (h : AttemptAt s t) (hn : s.sched.queue.Nodup)
    (hz : t.zoneHeld b = false) (hc : t.classOf b = some c) (hq : (t.bay b).state = .queued)
    (hfits : (c.surge : Int) ≤ t.headroom) : AttemptAt s (admitBay b c t) := by
  have same : (admitBay b c t).bay b = admitted t c (t.bay b) := admitBay_bay_same b c t
  have surge : ((admitBay b c t).bay b).state = .surge := by rw [same]; rfl
  have other : ∀ d, d ≠ b → (admitBay b c t).bay d = t.bay d := fun d => admitBay_bay_other c t
  have listed : b ∈ s.sched.queue := h.only.queue.subset ((h.matched.2 b).mpr hq)
  have zone : t.zoneHeld b = s.zoneHeld b := by
    have cfg : t.sup.cfg = s.sup.cfg := by rw [h.only.sup]
    have cool : t.cool = s.cool := by rw [h.only.rest]
    simp only [State.zoneHeld, State.zone, State.bayCfg, cfg, cool]
  have cls : s.classOf b = some c := by
    rcases h.only.bay b with hb | ⟨-, d, -, hd⟩
    · rw [← hc]
      exact (State.classOf_congr h.only.classes (by rw [hb])).symm
    · simp [hd, admitted] at hq
  refine ⟨admitBay_queueMatches h.matched c, h.only.trans (admitBay_onlyAdmits hq hc), fun d hd hs => ?_, fun _ => ?_, ?_, ?_⟩
  · by_cases e : d = b
    · rw [e, ← zone, hz]
    · exact h.free d hd (by rwa [other d e] at hs)
  · rw [headroom_admitBay hq hc]
    omega
  · show t.sched.queue.filter (· ≠ b) = _
    rw [h.queue, List.filter_filter]
    refine List.filter_congr fun d _ => ?_
    by_cases e : d = b
    · simp [e, admitted]
    · simp [e, other d e]
  · have counted := length_filter_one (b := b) (p := fun d => decide ((t.bay d).state = .surge) && s.stagedBay d)
      (q := fun d => decide (((admitBay b c t).bay d).state = .surge) && s.stagedBay d) hn listed (by simp [hq])
      fun d hd => by simp only [other d hd]
    have staged : (decide (((admitBay b c t).bay b).state = .surge) && s.stagedBay b) = c.staged := by
      rw [surge, State.stagedBay, cls]
      rfl
    show (if c.staged then t.sched.admissions + 1 else t.sched.admissions) = _
    rw [counted, staged, h.count]
    split <;> omega

theorem attempt_attemptAt {s : State} (h : QueueMatches s) : AttemptAt s (attempt s) :=
  attempt_kept (P := AttemptAt s) (fun _ _ _ ht hz _ hc hq _ hfits => ht.admission h.1 hz hc hq hfits) (.start h)

/-- Settles O14: each admission of the walk keeps the account of the attempt so far. -/
theorem attemptAdmitsWithinBounds : Obligations.AttemptAdmitsWithinBounds := by
  intro s hm
  obtain ⟨hmatched, honly, hfree, hcovered, hqueue, hcount⟩ := attempt_attemptAt hm
  refine ⟨honly, attempt_overdraw, attempt_deficit, fun b hq hs => ⟨hfree b hq hs, ?_, hcovered ⟨b, hq, hs⟩⟩, hqueue, ?_⟩
  · rw [hmatched.2, hs]
    simp
  · rw [hcount]
    congr 3
    funext b
    unfold State.stagedBay State.classOf
    cases (s.bay b).cls <;> rfl

end Sys2Proof.Machine
end

section
/-! PROOFS. The reading requests (R51, R82, R94, R125, R126, R171 to R173): the codes of the replies, and each reply as the
figures stand. -/

namespace Sys2Proof.Machine

open Sys2Proof.Safety

/-! ### Numbers as bytes (R193, R194) -/

/-- The two bytes of a signed number are those of its 16 bits. -/
theorem s16_eq (v : Int) : s16 v = [(BitVec.ofInt 16 v >>> 8).setWidth 8, (BitVec.ofInt 16 v).setWidth 8] := by
  have high : ∀ x : BitVec 16, b8 (x.toNat / 256) = (x >>> 8).setWidth 8 := fun x =>
    BitVec.eq_of_toNat_eq (by simp [b8, Nat.shiftRight_eq_div_pow])
  have low : ∀ x : BitVec 16, b8 x.toNat = x.setWidth 8 := fun x => BitVec.eq_of_toNat_eq (by simp [b8])
  rw [s16, b16, high, low]

theorem encodeAttn_sum (a : AttnSet) :
    encodeAttn a =
      (if a.presence then 1#8 else 0#8) + (if a.power then 2#8 else 0#8) + (if a.fault then 4#8 else 0#8) +
        (if a.resetDone then 8#8 else 0#8) + (if a.temperature then 16#8 else 0#8) := by
  obtain ⟨presence, power, fault, resetDone, temperature⟩ := a
  revert presence power fault resetDone temperature
  decide

theorem get_dataBytes (l : List Byte) (i : Fin 12) : (dataBytes l).get i = l.getD i.val 0#8 := by
  simp [dataBytes, Vector.get_eq_getElem]

/-- Zeros at the end of a layout are those of an unused data byte. -/
theorem dataBytes_append_zeros (l : List Byte) (n : Nat) : dataBytes (l ++ List.replicate n 0#8) = dataBytes l := by
  refine Vector.ext fun i hi => ?_
  simp only [dataBytes, Vector.getElem_ofFn]
  rcases Nat.lt_or_ge i l.length with h | h
  · rw [List.getD_append _ _ _ _ h]
  · rw [List.getD_append_right _ _ _ _ h, List.getD_eq_default _ _ h]
    rw [List.getD_eq_getElem?_getD, List.getElem?_replicate]
    split <;> rfl

theorem getD_map_range {n i : Nat} (f : Nat → Byte) (h : i < n) : ((List.range n).map f).getD i 0#8 = f i := by
  rw [List.getD_eq_getElem _ _ (by simpa using h), List.getElem_map, List.getElem_range]

theorem answered_congr {s : State} {kind tag : Byte} {r : Result} {l m : List Byte} (h : dataBytes l = dataBytes m) :
    answered s kind tag r l = answered s kind tag r m := by
  rw [answered, answered, h]

/-! ### The figures of the account (R66, R67, R72) -/

section Figures

variable (s : State)

theorem draw_eq (b : BayIx) :
    s.draw b =
      match (s.bay b).cls, (s.bay b).state with
      | .cls c, .surge => (s.driveClass c).surge
      | .cls c, .run => (s.driveClass c).run
      | _, _ => 0 := by
  unfold State.draw State.classOf
  cases (s.bay b).cls <;> cases (s.bay b).state <;> rfl

theorem powerPage0_eq :
    powerPage0 s =
      b16 s.acct.ceiling ++ b16 s.acct.guardBand ++ b16 s.committed ++ b16 s.acct.fanReserve ++
        b16 (if s.headroom < 0 then 0 else s.headroom.toNat) ++
        b16 (if s.headroom < 0 then min 65535 (-s.headroom).toNat else 0) := by
  have shown : s.reportedHeadroom = if s.headroom < 0 then 0 else s.headroom.toNat := by
    rw [State.reportedHeadroom]
    split <;> omega
  have short : s.shortfall = if s.headroom < 0 then min 65535 (-s.headroom).toNat else 0 := by
    rw [State.shortfall]
    split <;> omega
  rw [powerPage0, shown, short]

end Figures

/-! ### The replies -/

section Replies

variable {s : State} {dst : Byte} (ht : Takes s dst) (tag : Byte)

include ht

/-- The position that a destination names is the part's own. -/
theorem position_of_takes : ∃ p : Fin 8, s.loop.position = some p ∧ b8 p.val = dst := by
  obtain ⟨-, hpos, -⟩ := ht
  cases hp : s.loop.position with
  | none => simp [hp] at hpos
  | some p =>
    have named : p.val = dst.toNat := by simpa [hp] using hpos
    exact ⟨p, rfl, by rw [named]; exact BitVec.ofNat_toNat 8 dst⟩

theorem exec_identify :
    exec (.identify dst tag) s = .next (answered { s with loop := { s.loop with overrun := false } } 1#8 tag .ok
      [0x57#8, 0x10#8, 0x24#8, 0x08#8, 3#8, dst,
        bitIf true 0 ||| bitIf s.loop.mapConflict 1 ||| bitIf s.loop.overrun 2 ||| bitIf s.loop.lost 3,
        b8 s.rst.straps.bayCount, b8 s.rst.straps.ceilingCode.toNat, s.rst.cause.code]) := by
  obtain ⟨p, hp, hdst⟩ := position_of_takes ht
  refine message_answered ht ?_ tag 1#8 false
  have placed : s.placed = true := by rw [State.placed, hp]; rfl
  rw [msgIdentify, placed, hp, ← hdst]
  rfl

theorem exec_bayRead {b : BayIx} (hb : s.populated b = true) :
    exec (.bayRead dst tag (b8 b.val)) s = .next (answered s 2#8 tag .ok (bayReport s b)) :=
  message_answered ht (onNamedBay_populated hb _) tag 2#8 false

theorem exec_queueRead {o : Byte} (ho : o.toNat ≤ 23) :
    exec (.queueRead dst tag o) s = .next (answered s 16#8 tag .ok
      (b8 s.sched.queue.length ::
        (List.range 10).map fun i =>
          match s.sched.queue[o.toNat + i]? with
          | some b => b8 b.val
          | none => 255#8)) :=
  message_answered ht (if_neg (by omega)) tag 16#8 false

theorem exec_fanRead (f : FanIx) :
    exec (.fanRead dst tag (b8 f.val)) s = .next (answered s 17#8 tag .ok
      ([(s.fan f).state.code, b8 (s.fan f).target, b8 (s.fan f).applied] ++ b16 (s.fan f).tach ++
        b16 (s.fan f).rpm ++
        [b8 (s.fan f).low, b8 (s.fan f).good, bitIf (s.fan f).checked 0 ||| bitIf (s.fanCfg f).enabled 1,
          b8 (s.fanCfg f).zone.val])) := by
  have e : (b8 f.val).toNat = f.val := toNat_b8 (by omega)
  refine message_answered ht ?_ tag 17#8 false
  simp only [msgFanRead, e, f.isLt, dif_pos]
  rfl

theorem exec_sensorRead (ch : ChannelIx) :
    exec (.sensorRead dst tag (b8 ch.val)) s = .next (answered s 18#8 tag .ok
      (b16 (s.channel ch).raw ++ b16 (s.channel ch).corrected ++ s16 (s.channel ch).value ++
        [bitIf (s.channel ch).valid 0 ||| bitIf (s.sensor ch).enabled 1,
          match (s.sensor ch).zone with
          | some z => b8 z.val
          | none => 255#8])) := by
  have e : (b8 ch.val).toNat = ch.val := toNat_b8 (by omega)
  refine message_answered ht ?_ tag 18#8 false
  simp only [msgSensorRead, e, ch.isLt, dif_pos]
  rfl

theorem exec_zoneRead (z : ZoneIx) :
    exec (.zoneRead dst tag (b8 z.val)) s = .next (answered s 19#8 tag .ok
      (s16 ((s.zone z).temp.getD 0) ++
        [b8 (s.zone z).inputs, b8 (s.zone z).demand, (s.zone z).source.code,
          bitIf (s.zone z).temp.isSome 0 ||| bitIf (s.zone z).fanFailed 1 ||| bitIf (s.zone z).hold 2] ++
        s16 (s.zoneCfg z).holdTemp ++ [b8 (s.zoneCfg z).driveOffset, b8 (s.zoneCfg z).fallback])) := by
  have e : decodeZone (b8 z.val).toNat = some z := by
    rw [toNat_b8 (by omega)]
    exact dif_pos z.isLt
  refine message_answered ht ?_ tag 19#8 false
  rw [msgZoneRead, e]
  rfl

end Replies

/-- BAY READ's data bytes with the four of a record that a bay without one leaves at 0 (R173). -/
theorem bayReport_eq (s : State) (b : BayIx) :
    let valid := match s.temp b with
      | some t => decide (t.age < min 65535 (s.scan.staleness * 1000))
      | none => false
    dataBytes (bayReport s b) = dataBytes
      ([((s.bay b).state.code <<< 5) ||| b8 (s.bay b).cause.code, (s.bay b).cls.code,
          b8 (s.bay b).carrier.toNat, encodeAttn (s.bay b).attn,
          b8 ((s.bay b).loopIntent.code * 64 + (s.bay b).mgmtIntent.code * 16 + (s.bay b).retries * 4 +
            (if (s.bayCfg b).policy = .auto then 2 else 0) +
            if wants (s.bayCfg b).policy (s.bay b) then 1 else 0),
          bitIf ((s.bay b).state = .queued && s.zoneHeld b) 0 ||| bitIf (s.bay b).expedite 1 |||
            bitIf (s.temp b).isSome 2 ||| bitIf valid 3] ++
        b16 (s.bay b).drain ++
        (match s.temp b with
        | some t => s16 t.value ++ b16 t.age
        | none => [0#8, 0#8, 0#8, 0#8])) := by
  intro valid
  have judged : s.tempValid b = valid := by
    unfold State.tempValid valid effectiveStaleness
    cases s.temp b <;> rfl
  unfold bayReport
  rw [desire_eq, judged]
  cases s.temp b with
  | some t => rfl
  | none =>
    rw [List.append_nil]
    exact (dataBytes_append_zeros _ 4).symm

/-- Settles O37. -/
theorem readingRequestsAnswer : Obligations.ReadingRequestsAnswer := by
  refine ⟨⟨by decide, by decide, fun _ => rfl, rfl, rfl, by decide, by decide, by decide, by decide, by decide, by decide⟩,
    encodeAttn_sum, fun n v => ⟨rfl, s16_eq v⟩, get_dataBytes, fun s dst tag ht => ?_⟩
  intro valid draw committed headroom
  have hdraw : s.draw = draw := funext (draw_eq s)
  have hcommitted : s.committed = committed := by rw [State.committed, hdraw]
  have hheadroom : s.headroom = headroom := by rw [State.headroom, hcommitted]; rfl
  refine ⟨exec_identify ht tag, fun b hb => ?_, ?_, message_answered ht rfl tag 15#8 false, fun o ho => ?_,
    exec_fanRead ht tag, exec_sensorRead ht tag, exec_zoneRead ht tag⟩
  · rw [exec_bayRead ht tag hb]
    exact congrArg Host.Outcome.next (answered_congr (bayReport_eq s b))
  · rw [← hcommitted, ← hheadroom, ← powerPage0_eq]
    exact message_answered ht rfl tag 15#8 false
  · refine ⟨_, exec_queueRead ht tag ho, rfl, rfl, fun i hi => ?_⟩
    exact getD_map_range _ hi

end Sys2Proof.Machine
end

section
/-! PROOFS. The bytes of table entries read and written: every entry that a decoder answers is written in bytes which it reads
as the same entry, with no number clamped (R178, R180, R193). -/

namespace Sys2Proof.Machine

open Sys2Proof.Safety

/-! ### Bytes and words -/

@[simp] theorem byteAt_cons_zero (x : Byte) (l : List Byte) : byteAt (x :: l) 0 = x.toNat := rfl

@[simp] theorem byteAt_cons_succ (x : Byte) (l : List Byte) (i : Nat) : byteAt (x :: l) (i + 1) = byteAt l i := rfl

@[simp] theorem b8_toNat (n : Nat) : (b8 n).toNat = n % 256 := BitVec.toNat_ofNat n 8

@[simp] theorem b16_append (n : Nat) (l : List Byte) : b16 n ++ l = b8 (n / 256) :: b8 n :: l := rfl

@[simp] theorem s16_append (v : Int) (l : List Byte) :
    s16 v ++ l = b8 ((BitVec.ofInt 16 v).toNat / 256) :: b8 (BitVec.ofInt 16 v).toNat :: l := rfl

/-- A word is read back from its two bytes. -/
@[simp] theorem wordAt_word {n : Nat} (h : n < 65536) (l : List Byte) : wordAt (b8 (n / 256) :: b8 n :: l) 0 = n := by
  simp only [wordAt, byteAt_cons_zero, byteAt_cons_succ, b8_toNat]
  omega

@[simp] theorem wordAt_cons_succ (x : Byte) (l : List Byte) (i : Nat) : wordAt (x :: l) (i + 1) = wordAt l i := rfl

/-- A signed word is read back from its two bytes (R193). -/
theorem signedAt_s16 {v : Int} (h : -32768 ≤ v ∧ v ≤ 32767) (l : List Byte) : signedAt (s16 v ++ l) 0 = v := by
  rw [signedAt, s16_append, wordAt_word (BitVec.ofInt 16 v).isLt, BitVec.ofNat_toNat, BitVec.setWidth_eq,
    BitVec.toInt_ofInt, Int.bmod_eq_of_le (by omega) (by omega)]

/-- A signed byte is read back. -/
theorem toInt_ofInt_byte {v : Int} (h : -128 ≤ v ∧ v ≤ 127) : (BitVec.ofNat 8 (BitVec.ofInt 8 v).toNat).toInt = v := by
  rw [BitVec.ofNat_toNat, BitVec.setWidth_eq, BitVec.toInt_ofInt, Int.bmod_eq_of_le (by omega) (by omega)]

/-! ### Codes of enumerations -/

theorem decodeFlag_encode (c : Bool) : decodeFlag (if c then 1#8 else 0#8 : Byte).toNat = some c := by
  cases c <;> rfl

theorem decodeZone_encode (z : ZoneIx) : decodeZone (b8 z.val).toNat = some z := by
  rw [toNat_b8 (by omega)]
  exact dif_pos z.isLt

theorem decodeSlot_encode {f : SlotField} (h : slotInRange f = true) : decodeSlot (encodeSlot f).toNat = some f := by
  cases f with
  | slot k =>
    have hk : k < 192 := by simpa [slotInRange, Nat.lt_succ_iff] using h
    rw [encodeSlot, toNat_b8 (by omega), decodeSlot, if_pos hk]
  | unmapped => rfl
  | byPosition => rfl

theorem decodeCarrier_encode (c : CarrierEntry) : decodeCarrier (encodeCarrier c).toNat = some c := by
  cases c with
  | cls k => rw [encodeCarrier, toNat_b8 (by omega), decodeCarrier_cls]
  | blank => rfl
  | unsupported => rfl

theorem decodePattern_encode (p : Pattern) : decodePattern (encodePattern p) = some p := by cases p <;> rfl

theorem encodePattern_lt (p : Pattern) : encodePattern p < 8 := by cases p <;> decide

/-- Three patterns are read back, whatever stands beside the third. -/
theorem decodePatterns_encode (p : Patterns) {k : Nat} (hk : k < 16) :
    decodePatterns (b8 (encodePattern p.activity * 16 + encodePattern p.locate)).toNat
      (b8 (encodePattern p.fault * 16 + k)).toNat = some p := by
  have ha := encodePattern_lt p.activity
  have hl := encodePattern_lt p.locate
  have hf := encodePattern_lt p.fault
  have activity : (b8 (encodePattern p.activity * 16 + encodePattern p.locate)).toNat / 16 = encodePattern p.activity := by
    rw [toNat_b8 (by omega)]
    omega
  have locate : (b8 (encodePattern p.activity * 16 + encodePattern p.locate)).toNat % 16 = encodePattern p.locate := by
    rw [toNat_b8 (by omega)]
    omega
  have fault : (b8 (encodePattern p.fault * 16 + k)).toNat / 16 = encodePattern p.fault := by
    rw [toNat_b8 (by omega)]
    omega
  simp only [decodePatterns, activity, locate, fault, decodePattern_encode]

/-- The bits of a number below 2 ^ m, summed, are the number. -/
theorem sum_testBit (n m : Nat) : ((List.range m).map fun k => if n.testBit k then 2 ^ k else 0).sum = n % 2 ^ m := by
  induction m with
  | zero => simp [Nat.mod_one]
  | succ m ih =>
    rw [List.range_succ, List.map_append, List.sum_append, ih, Nat.mod_pow_succ, List.map_singleton, List.sum_singleton,
      Nat.testBit_eq_decide_div_mod_eq]
    rcases Nat.mod_two_eq_zero_or_one (n / 2 ^ m) with h | h <;> simp [h]

/-- A set of conditions read from a number is written as the number (R193). -/
theorem encodeConds_condsOf {n : Nat} (h : n < 32768) : encodeConds (condsOf n) = n := by
  have every : ∀ c : Cond, c ∈ allConds := by
    intro c
    cases c <;> decide
  have mem : ∀ c : Cond, c ∈ condsOf n ↔ n.testBit c.bit = true := fun c => by
    have e := decodeConds_eq h
    rw [decodeConds, if_pos h] at e
    rw [← Option.some.inj e, List.mem_filter]
    simp [every]
  have bits : allConds.map Cond.bit = List.range 15 := by decide
  calc encodeConds (condsOf n)
      = ((allConds.map Cond.bit).map fun k => if n.testBit k then 2 ^ k else 0).sum := by
        simp only [encodeConds, mem, List.map_map, Function.comp_def, decide_eq_true_eq]
    _ = n % 2 ^ 15 := by rw [bits, sum_testBit]
    _ = n := Nat.mod_eq_of_lt h

/-! ### The entries -/

/-- An override byte is read back. -/
theorem decodeOverride_encode (c : BayCfg) : decodeOverride (byteAt (encodeBayCfg c) 3) = some c.override := by
  obtain ⟨slot, zone, policy, override, cut, mask⟩ := c
  cases override with
  | some k => exact decodeOverride_some k
  | none => exact decodeOverride_none

theorem decodePolicy_encode (p : Policy) :
    decodeFlag (if p = .auto then 1#8 else 0#8 : Byte).toNat = some (decide (p = .auto)) := by
  cases p <;> rfl

theorem decodeBayCfg_encode {c : BayCfg} (h : slotInRange c.slot = true) : decodeBayCfg (encodeBayCfg c) = some c := by
  have slot : decodeSlot (byteAt (encodeBayCfg c) 0) = some c.slot := decodeSlot_encode h
  have zone : decodeZone (byteAt (encodeBayCfg c) 1) = some c.zone := decodeZone_encode c.zone
  have policy : decodeFlag (byteAt (encodeBayCfg c) 2) = some (decide (c.policy = .auto)) := decodePolicy_encode c.policy
  have cut : decodeFlag (byteAt (encodeBayCfg c) 4) = some c.cut := decodeFlag_encode c.cut
  have mask : decodeAttn (byteAt (encodeBayCfg c) 5) = some c.mask := decodeAttn_encodeAttn c.mask
  have kept : (if decide (c.policy = .auto) = true then Policy.auto else .manual) = c.policy := by
    cases c.policy <;> rfl
  simp only [decodeBayCfg, slot, zone, policy, decodeOverride_encode, cut, mask, kept]

theorem decodeClass_encode {c : DriveClass} (h : ClassInRange c) : decodeClass (encodeClass c) = some (c, false) := by
  obtain ⟨surge, run, spinUp, pgTimeout, resetHold, staged, retryLimit, warn, critical⟩ := c
  simp only [ClassInRange] at h
  obtain ⟨hsurge, hrun, hspin, hspin', hpg, hpg', hhold, hretry, hwarn, hcritical⟩ := h
  have low : (if staged then 64 else 0) + retryLimit < 256 := by split <;> omega
  have flag : decodeFlag (((if staged then 64 else 0) + retryLimit) / 64) = some staged := by
    cases staged
    · rw [if_neg (by simp), show (0 + retryLimit) / 64 = 0 by omega]
      rfl
    · rw [if_pos rfl, show (64 + retryLimit) / 64 = 1 by omega]
      rfl
  have rest : ((if staged then 64 else 0) + retryLimit) % 64 = retryLimit := by split <;> omega
  have byte : ∀ n, n ≤ 255 → n % 256 = n := fun n hn => Nat.mod_eq_of_lt (by omega)
  simp only [decodeClass, encodeClass, b16_append, List.cons_append, byteAt_cons_zero,
    byteAt_cons_succ, wordAt_cons_succ, wordAt_word (show surge < 65536 by omega), wordAt_word (show run < 65536 by omega),
    b8_toNat, byte _ (show spinUp ≤ 255 by omega), byte _ (show pgTimeout ≤ 255 by omega), byte _ hhold,
    byte _ (show warn ≤ 255 by omega), byte _ (show critical ≤ 255 by omega), Nat.mod_eq_of_lt low, flag, rest]
  simp only [Nat.min_eq_right hsurge, Nat.min_eq_right hrun, Nat.max_eq_right hspin, Nat.max_eq_right hpg,
    Nat.min_eq_right hretry, Nat.min_eq_right hwarn, Nat.min_eq_right hcritical, ne_eq, not_true_eq_false, decide_false]

theorem decodeRule_encode {e : List Byte} {r : Rule} (h : decodeRule e = some r) : decodeRule (encodeRule r) = some r := by
  by_cases named : wordAt e 0 < 32768 ∧ wordAt e 2 < 32768 ∧
      (byteAt e 4 / 16 < 8 ∧ byteAt e 4 % 16 < 8 ∧ byteAt e 5 / 16 < 8)
  · rw [decodeRule_eq named] at h
    obtain ⟨hreq, hexc, -⟩ := named
    obtain ⟨required, excluded, urgent, patterns⟩ := r
    obtain ⟨rfl, rfl, -, -⟩ := Rule.mk.inj (Option.some.inj h)
    have low : ∀ u : Bool, (if u = true then 1 else 0) < 16 := fun u => by cases u <;> decide
    have bit : (b8 (encodePattern patterns.fault * 16 + if urgent = true then 1 else 0)).toNat.testBit 0 = urgent := by
      have := encodePattern_lt patterns.fault
      rw [toNat_b8 (by split <;> omega), Nat.testBit_zero]
      cases urgent
      · exact decide_eq_false (by rw [if_neg (by simp)]; omega)
      · exact decide_eq_true (by rw [if_pos rfl]; omega)
    simp only [decodeRule, encodeRule, encodeConds_condsOf hreq, encodeConds_condsOf hexc, b16_append, List.cons_append,
      byteAt_cons_zero, byteAt_cons_succ, wordAt_cons_succ, wordAt_word (wordAt_lt e _),
      decodeConds_eq hreq, decodeConds_eq hexc, decodePatterns_encode patterns (low urgent), bit]
  · rw [decodeRule_beyond named] at h
    cases h

/-- A temperature of a curve or of a zone is in the range it is clamped to. -/
theorem clampInt_eq {v : Int} (h : -80 ≤ v ∧ v ≤ 255) : clampInt (-80) 255 v = v := by
  unfold clampInt
  omega

theorem decodePoint_encode {p : Point} (h : PointInRange p) : decodePoint (encodePoint p) = (p, false) := by
  obtain ⟨hlow, hhigh, hduty⟩ := h
  have temp : signedAt (encodePoint p) 0 = p.temp := signedAt_s16 (by omega) _
  have duty : byteAt (encodePoint p) 2 = p.duty := toNat_b8 (by omega)
  simp only [decodePoint, temp, duty, clampInt_eq ⟨hlow, hhigh⟩, ne_eq, not_true_eq_false, decide_false]

theorem decodeZoneCfg_encode {c : ZoneCfg} (h : ZoneCfgInRange c) : decodeZoneCfg (encodeZoneCfg c) = (c, false) := by
  obtain ⟨hlow, hhigh, hoffset, hfallback⟩ := h
  have hold : signedAt (encodeZoneCfg c) 0 = c.holdTemp := signedAt_s16 (by omega) _
  have offset : byteAt (encodeZoneCfg c) 2 = c.driveOffset := toNat_b8 (by omega)
  have fallback : byteAt (encodeZoneCfg c) 3 = c.fallback := toNat_b8 (by omega)
  simp only [decodeZoneCfg, hold, offset, fallback, clampInt_eq ⟨hlow, hhigh⟩, Nat.min_eq_right hoffset, ne_eq,
    not_true_eq_false, decide_false, Bool.or_false]

/-- The zone byte of a sensor is read back. -/
theorem decodeZoneOrNone_encode (c : SensorCfg) : decodeZoneOrNone (byteAt (encodeSensor c) 1) = some c.zone := by
  obtain ⟨enabled, zone, negative, magnitude, span, intercept⟩ := c
  cases zone with
  | some z =>
    have hz : (b8 z.val).toNat = z.val := toNat_b8 (by omega)
    change decodeZoneOrNone (b8 z.val).toNat = _
    rw [decodeZoneOrNone, if_neg (by rw [hz]; omega), decodeZone_encode]
    rfl
  | none => rfl

theorem decodeSensor_encode {c : SensorCfg} (h : SensorInRange c) : decodeSensor (encodeSensor c) = some (c, false) := by
  obtain ⟨hmagnitude, hspan, hlow, hhigh⟩ := h
  have enabled : decodeFlag (byteAt (encodeSensor c) 0) = some c.enabled := decodeFlag_encode c.enabled
  have negative : decodeFlag (byteAt (encodeSensor c) 2) = some c.negative := decodeFlag_encode c.negative
  have magnitude : byteAt (encodeSensor c) 3 = c.magnitude := toNat_b8 (by omega)
  have span : wordAt (encodeSensor c) 4 = c.span :=
    wordAt_word (by omega) [BitVec.ofInt 8 c.intercept]
  have intercept : (BitVec.ofNat 8 (byteAt (encodeSensor c) 6)).toInt = c.intercept := toInt_ofInt_byte ⟨hlow, hhigh⟩
  simp only [decodeSensor, enabled, decodeZoneOrNone_encode, negative, magnitude, span, intercept,
    Nat.min_eq_right hmagnitude, ne_eq, not_true_eq_false, decide_false]

theorem decodeFan_encode {c : FanCfg} (h : FanCfgInRange c) : decodeFan (encodeFan c) = some (c, false) := by
  obtain ⟨enabled, zone, full, minDuty, minRpm, pulses⟩ := c
  simp only [FanCfgInRange] at h
  obtain ⟨hfull, hduty, hrpm, hlow, hhigh⟩ := h
  have clamp : clampNat 1 4 pulses = pulses := by
    unfold clampNat
    omega
  simp only [decodeFan, encodeFan, b16_append, List.cons_append, List.nil_append, byteAt_cons_zero,
    byteAt_cons_succ, wordAt_cons_succ, decodeFlag_encode, decodeZone_encode, toNat_b8 (show minDuty < 256 by omega),
    toNat_b8 (show pulses < 256 by omega), wordAt_word (show full < 65536 by omega),
    wordAt_word (show minRpm < 65536 by omega), Nat.min_eq_right hfull, clamp, ne_eq, not_true_eq_false, decide_false,
    Bool.or_false]

end Sys2Proof.Machine
end

section
/-! PROOFS. The bytes in which each table entry reads back, and that a stored entry stores again as it reads (R178, R180,
R193, 10, section 10.4). -/

namespace Sys2Proof.Machine

open Sys2Proof.Safety

/-! ### States that read alike -/

/-- t differs from s at most in the bays' records and temperatures, the queue and the admissions, the window and the reply
hold. No table entry, position or claim is read from these. -/
structure ReadsAlike (s t : State) : Prop where
  rest : t =
    { s with
      sup := { s.sup with bays := t.sup.bays }
      sched := { s.sched with queue := t.sched.queue, admissions := t.sched.admissions }
      scan := { s.scan with temps := t.scan.temps }
      window := t.window
      loop := { s.loop with reply := t.loop.reply, replyPlaced := t.loop.replyPlaced } }

namespace ReadsAlike

variable {s t u : State}

theorem refl (s : State) : ReadsAlike s s := ⟨rfl⟩

theorem trans (h : ReadsAlike s t) (k : ReadsAlike t u) : ReadsAlike s u := ⟨by rw [k.rest, h.rest]⟩

theorem entry (h : ReadsAlike s t) (table i : Nat) : getEntry table i t = getEntry table i s := by
  rw [h.rest]
  rfl

theorem rst (h : ReadsAlike s t) : t.rst = s.rst := by rw [h.rest]

theorem cfg (h : ReadsAlike s t) : t.sup.cfg = s.sup.cfg := by rw [h.rest]

theorem position (h : ReadsAlike s t) : t.loop.position = s.loop.position := by rw [h.rest]

theorem slotMap (h : ReadsAlike s t) : t.loop.slotMap = s.loop.slotMap := by rw [h.rest]

theorem attempt (s : State) : ReadsAlike s (attempt s) := by
  have h := attempt_onlyAdmits s
  exact ⟨by rw [h.rest, h.sup, h.sched]⟩

theorem entered (w : Work) : ReadsAlike w.st w.entered := ⟨rfl⟩

theorem answered (s : State) (kind tag : Byte) (r : Result) (data : List Byte) : ReadsAlike s (answered s kind tag r data) :=
  ⟨rfl⟩

theorem baysOnly {w w' : Work} (h : BaysOnly w w') : ReadsAlike w.st w'.st := ⟨by rw [h.rest]⟩

theorem rejudgeAll (s : State) : ReadsAlike s (rejudgeAll s) := ⟨by rw [rejudgeAll_eq]⟩

/-- The end of an event changes nothing that is read. -/
theorem event {f : Work → Work} (h : ReadsAlike t (f (Work.start s)).st) : ReadsAlike t (event f s) :=
  event_kept (P := ReadsAlike t) (fun u hu => hu.trans (.attempt u)) (h.trans (.entered _))

end ReadsAlike

/-! ### Stores that read back, and that store again -/

/-- The event of f at s leaves an entry with the given bytes, and the part placed as it was. -/
structure Stores (table i : Nat) (bytes : List Byte) (f : Work → Work) (s : State) : Prop where
  entry : getEntry table i (event f s) = bytes
  rst : (event f s).rst = s.rst
  position : (event f s).loop.position = s.loop.position

/-- A store reads back as the state that it makes before the event ends. -/
theorem Stores.of {table i : Nat} {bytes : List Byte} {f : Work → Work} {s : State} (t : State)
    (h : ReadsAlike t (f (Work.start s)).st) (hb : getEntry table i t = bytes) (hr : t.rst = s.rst)
    (hp : t.loop.position = s.loop.position) : Stores table i bytes f s :=
  ⟨(h.event.entry table i).trans hb, h.event.rst.trans hr, h.event.position.trans hp⟩

/-- What a put comes to, if it is a store, leaves bytes which then store as they are. -/
def Rewritable (table i : Nat) (s : State) (p : Put) : Prop :=
  ∀ m f, p = .store m f → ∃ bytes, Stores table i bytes f s ∧
    ∀ u, ReadsAlike (event f s) u → ∃ g, putEntry table i bytes u = .store false g ∧ Stores table i bytes g u

/-- A store whose bytes come to the same changes wherever they are put. -/
theorem rewritable_store {table i : Nat} {f : Work → Work} (bytes : List Byte) {m : Bool} {s : State}
    (hput : ∀ u, putEntry table i bytes u = .store false f) (hw : ∀ u, Stores table i bytes f u) :
    Rewritable table i s (.store m f) := by
  rintro _ _ ⟨⟩
  exact ⟨bytes, hw s, fun u _ => ⟨f, hput u, hw u⟩⟩

/-- A decoded entry whose encoding decodes to it again. -/
theorem rewritable_of {α : Type} {table i : Nat} {x : Option (α × Bool)} {write : α → Work → Work} (enc : α → List Byte)
    {s : State} (hput : ∀ v m, x = some (v, m) → ∀ u, putEntry table i (enc v) u = .store false (write v))
    (hw : ∀ v u, Stores table i (enc v) (write v) u) : Rewritable table i s (Put.of x write) := by
  cases x with
  | none =>
    rintro _ _ ⟨⟩
  | some y => exact rewritable_store (enc y.1) (hput y.1 y.2 rfl) (hw y.1)

theorem rewritable_refuse {table i : Nat} {s : State} (r : Result) : Rewritable table i s (.refuse r) := by
  rintro _ _ ⟨⟩

theorem get_set_same {α : Type} {n : Nat} (v : Vector α n) (i : Fin n) (x : α) : (v.set i x).get i = x := by
  simp [Vector.get_eq_getElem]

/-! ### Tables 1 to 8 -/

section Entries

variable {s : State} {i : Nat}

theorem putEntry1_rewritable (e : List Byte) : Rewritable 1 i s (putEntry 1 i e s) := by
  refine rewritable_of (fun c => [encodeCarrier c]) (fun c _ _ _ => ?_) fun c u =>
    .of _ (.refl _) (congrArg (fun c => [encodeCarrier c]) (get_set_same ..)) rfl rfl
  simp only [putEntry, byteAt_cons_zero, decodeCarrier_encode, Option.map_some, Put.of]

theorem putEntry2_rewritable (e : List Byte) : Rewritable 2 i s (putEntry 2 i e s) := by
  refine rewritable_of encodeClass (fun c _ h _ => ?_) fun c u =>
    .of _ (.refl _) (congrArg encodeClass (get_set_same ..)) rfl rfl
  simp only [putEntry, decodeClass_encode (decodeClass_inRange h), Put.of]

theorem putEntry3_rewritable (e : List Byte) : Rewritable 3 i s (putEntry 3 i e s) := by
  refine rewritable_of encodePatterns (fun p _ _ _ => ?_) fun p u =>
    .of _ (.refl _) (congrArg encodePatterns (get_set_same ..)) rfl rfl
  have h : decodePatterns (byteAt (encodePatterns p) 0) (byteAt (encodePatterns p) 1) = some p :=
    decodePatterns_encode p (k := 0) (by omega)
  simp only [putEntry, h, Option.map_some, Put.of]

theorem putEntry4_rewritable (e : List Byte) : Rewritable 4 i s (putEntry 4 i e s) := by
  refine rewritable_of encodeRule (fun r m h _ => ?_) fun p u =>
    .of _ (.refl _) (congrArg encodeRule (get_set_same ..)) rfl rfl
  obtain ⟨r', hr, heq⟩ := Option.map_eq_some_iff.mp h
  obtain ⟨rfl, -⟩ := Prod.mk.inj heq
  simp only [putEntry, decodeRule_encode hr, Option.map_some, Put.of]

theorem putEntry5_rewritable (e : List Byte) : Rewritable 5 i s (putEntry 5 i e s) := by
  refine rewritable_store (encodePoint (decodePoint e).1) (fun u => ?_) fun u =>
    .of _ (.refl _) (congrArg encodePoint (get_set_same ..)) rfl rfl
  simp only [putEntry, decodePoint_encode (decodePoint_inRange e)]

theorem putEntry6_rewritable (e : List Byte) : Rewritable 6 i s (putEntry 6 i e s) := by
  refine rewritable_store (encodeZoneCfg (decodeZoneCfg e).1) (fun u => ?_) fun u =>
    .of _ (.refl _) (congrArg encodeZoneCfg (get_set_same ..)) rfl rfl
  simp only [putEntry, decodeZoneCfg_encode (decodeZoneCfg_inRange e)]

/-- The write of a sensor's entry leaves the part placed, and the entry as written. -/
theorem writeSensor_kept (ch : ChannelIx) (c : SensorCfg) (s : State) :
    (writeSensor ch c s).sensor ch = c ∧ (writeSensor ch c s).rst = s.rst ∧ (writeSensor ch c s).loop = s.loop := by
  rw [writeSensor_eq]
  split <;> exact ⟨get_set_same .., rfl, rfl⟩

theorem putEntry7_rewritable (e : List Byte) : Rewritable 7 i s (putEntry 7 i e s) := by
  refine rewritable_of encodeSensor (fun c _ h _ => ?_) fun c u => ?_
  · simp only [putEntry, decodeSensor_encode (decodeSensor_inRange h), Put.of]
  · obtain ⟨hc, hr, hl⟩ := writeSensor_kept (Fin.ofNat 9 i) c u
    exact .of _ (.refl _) (congrArg encodeSensor hc) hr (congrArg _ hl)

/-- The write of a fan's entry leaves the part placed, and the entry as written. -/
theorem writeFan_kept (f : FanIx) (c : FanCfg) (s : State) :
    (writeFan f c s).fanCfg f = c ∧ (writeFan f c s).rst = s.rst ∧ (writeFan f c s).loop = s.loop := by
  rw [writeFan_eq]
  exact ⟨get_set_same .., rfl, rfl⟩

theorem putEntry8_rewritable (e : List Byte) : Rewritable 8 i s (putEntry 8 i e s) := by
  refine rewritable_of encodeFan (fun c _ h _ => ?_) fun c u => ?_
  · simp only [putEntry, decodeFan_encode (decodeFan_inRange h), Put.of]
  · obtain ⟨hc, hr, hl⟩ := writeFan_kept (Fin.ofNat 8 i) c u
    exact .of _ (.refl _) (congrArg encodeFan hc) hr (congrArg _ hl)

end Entries

end Sys2Proof.Machine
end

section
/-! PROOFS. The entries of table 9 and of table 0 store again as they read (R54, R69, R157, R178, R179). -/

namespace Sys2Proof.Machine

open Sys2Proof.Safety

/-! ### Table 9 -/

section Parts

variable {s : State}

theorem wordAt_b16 {n : Nat} (h : n < 65536) : wordAt (b16 n) 0 = n := wordAt_word h []

theorem clampNat_bounds {lo hi : Nat} (h : lo ≤ hi) (n : Nat) : lo ≤ clampNat lo hi n ∧ clampNat lo hi n ≤ hi := by
  unfold clampNat
  omega

theorem clampNat_eq {lo hi n : Nat} (h : lo ≤ n ∧ n ≤ hi) : clampNat lo hi n = n := by
  unfold clampNat
  omega

theorem putPart0_rewritable (e : List Byte) : Rewritable 9 0 s (putPart 0 e) := by
  have hc := Nat.min_le_left 60000 (wordAt e 0)
  have hg := Nat.min_le_left 2000 (wordAt e 2)
  have hm := Nat.min_le_left 2000 (wordAt e 4)
  simp only [putPart]
  generalize min 60000 (wordAt e 0) = c at *
  generalize min 2000 (wordAt e 2) = g at *
  generalize min 2000 (wordAt e 4) = m at *
  refine rewritable_store (b16 c ++ b16 g ++ b16 m) (fun u => ?_) fun u => ?_
  · have ceiling : wordAt (b16 c ++ b16 g ++ b16 m) 0 = c := wordAt_word (by omega) (b16 g ++ b16 m)
    have guardBand : wordAt (b16 c ++ b16 g ++ b16 m) 2 = g := wordAt_word (by omega) (b16 m)
    have margin : wordAt (b16 c ++ b16 g ++ b16 m) 4 = m := wordAt_b16 (by omega)
    simp only [putEntry, putPart, ceiling, guardBand, margin, Nat.min_eq_right hc, Nat.min_eq_right hg,
      Nat.min_eq_right hm, ne_eq, not_true_eq_false, decide_false, Bool.or_false]
  · refine .of { u with acct := { u.acct with ceiling := c, guardBand := g, margin := m } } ?_ rfl rfl rfl
    unfold writePower
    dsimp only
    split <;> exact .refl _

theorem putPart1_rewritable (e : List Byte) : Rewritable 9 1 s (putPart 1 e) := by
  have hn := clampNat_bounds (show 100 ≤ 10000 by omega) (wordAt e 0)
  have hl := clampNat_bounds (show 1 ≤ 8 by omega) (byteAt e 2)
  simp only [putPart]
  generalize clampNat 100 10000 (wordAt e 0) = n at *
  generalize clampNat 1 8 (byteAt e 2) = l at *
  refine rewritable_store (b16 n ++ [b8 l]) (fun u => ?_) fun u => .of _ (.refl _) rfl rfl rfl
  simp only [putEntry, putPart, b16_append, byteAt_cons_succ, byteAt_cons_zero, wordAt_word (show n < 65536 by omega),
    toNat_b8 (show l < 256 by omega), clampNat_eq hn, clampNat_eq hl, ne_eq, not_true_eq_false, decide_false,
    Bool.or_false]

theorem putPart2_rewritable (e : List Byte) : Rewritable 9 2 s (putPart 2 e) := by
  have hb := byteAt_lt e 0
  have hd := Nat.le_max_left 1 (byteAt e 0)
  have hd' : max 1 (byteAt e 0) < 256 := by omega
  have hr := clampNat_bounds (show 100 ≤ 5000 by omega) (wordAt e 1)
  simp only [putPart]
  generalize max 1 (byteAt e 0) = d at *
  generalize clampNat 100 5000 (wordAt e 1) = r at *
  refine rewritable_store ([b8 d] ++ b16 r) (fun u => ?_) fun u => .of _ (.refl _) rfl rfl rfl
  simp only [putEntry, putPart, List.cons_append, List.nil_append, byteAt_cons_zero, wordAt_cons_succ,
    wordAt_b16 (show r < 65536 by omega), toNat_b8 hd', Nat.max_eq_right hd, clampNat_eq hr, ne_eq, not_true_eq_false,
    decide_false, Bool.or_false]

theorem putPart3_rewritable (e : List Byte) : Rewritable 9 3 s (putPart 3 e) := by
  have hb := byteAt_lt e 0
  have ht := Nat.le_max_left 1 (byteAt e 0)
  have ht' : max 1 (byteAt e 0) < 256 := by omega
  cases hen : decodeFlag (byteAt e 1) with
  | none =>
    simp only [putPart, hen]
    exact rewritable_refuse _
  | some en =>
    simp only [putPart, hen]
    generalize max 1 (byteAt e 0) = t at *
    refine rewritable_store [b8 t, if en then 1#8 else 0#8] (fun u => ?_) fun u => .of _ (.refl _) rfl rfl rfl
    simp only [putEntry, putPart, byteAt_cons_zero, byteAt_cons_succ, decodeFlag_encode, toNat_b8 ht',
      Nat.max_eq_right ht, ne_eq, not_true_eq_false, decide_false]

theorem putPart4_rewritable (e : List Byte) : Rewritable 9 4 s (putPart 4 e) := by
  have two := byteAt_lt e 2
  have three := byteAt_lt e 3
  have four := byteAt_lt e 4
  have hp := clampNat_bounds (show 200 ≤ 5000 by omega) (wordAt e 0)
  have hu : 1 ≤ max 1 (byteAt e 2) ∧ max 1 (byteAt e 2) < 256 := by omega
  have hd : 1 ≤ max 1 (byteAt e 3) ∧ max 1 (byteAt e 3) < 256 := by omega
  have hl : 1 ≤ max 1 (byteAt e 4) ∧ max 1 (byteAt e 4) < 256 := by omega
  simp only [putPart]
  generalize clampNat 200 5000 (wordAt e 0) = p at *
  generalize max 1 (byteAt e 2) = up at *
  generalize max 1 (byteAt e 3) = down at *
  generalize max 1 (byteAt e 4) = l at *
  refine rewritable_store (b16 p ++ [b8 up, b8 down, b8 l]) (fun u => ?_) fun u => ?_
  · simp only [putEntry, putPart, b16_append, byteAt_cons_succ, byteAt_cons_zero, wordAt_word (show p < 65536 by omega),
      toNat_b8 hu.2, toNat_b8 hd.2, toNat_b8 hl.2, clampNat_eq hp, Nat.max_eq_right hu.1, Nat.max_eq_right hd.1,
      Nat.max_eq_right hl.1, ne_eq, not_true_eq_false, decide_false, Bool.or_false]
  · refine .of
      { u with cool := { u.cool with period := p, upStep := up, downStep := down }, scan := { u.scan with staleness := l } }
      ?_ rfl rfl rfl
    unfold writeCooling
    dsimp only
    split
    · rw [Work.st_map]
      exact .rejudgeAll _
    · exact .refl _

theorem putPart5_rewritable (k : Nat) (e : List Byte) : Rewritable 9 (k + 5) s (putPart (k + 5) e) := by
  have hn := Nat.min_le_left 15 (byteAt e 0)
  simp only [putPart]
  generalize min 15 (byteAt e 0) = n at *
  refine rewritable_store [b8 n] (fun u => ?_) fun u => .of _ (.refl _) rfl rfl rfl
  simp only [putEntry, putPart, byteAt_cons_zero, toNat_b8 (show n < 256 by omega), Nat.min_eq_right hn, ne_eq,
    not_true_eq_false, decide_false]

end Parts

/-! ### Table 0 -/

/-- The event of a bay's entry reads as the state with the entry stored. -/
theorem writeBayCfg_readsAlike (b : BayIx) (c : BayCfg) (s : State) :
    ReadsAlike (withBayCfg b c s) (writeBayCfg b c (Work.start s)).st := by
  cases hb : s.populated b with
  | false =>
    rw [writeBayCfg_absent hb]
    exact .refl _
  | true =>
    rw [writeBayCfg_populated hb]
    exact .baysOnly (overrideWritten_edits b c s).frame

theorem withBayCfg_position (b : BayIx) (c : BayCfg) (s : State) :
    (withBayCfg b c s).loop.position = s.loop.position := by
  unfold withBayCfg
  split
  · rfl
  · unfold resolveMap
    rfl

theorem withBayCfg_bayCfg_other {b d : BayIx} (h : d ≠ b) (c : BayCfg) (s : State) :
    (withBayCfg b c s).bayCfg d = s.bayCfg d := by
  rw [withBayCfg_rest]
  exact State.bayCfg_setBayCfg_other _ _ h

theorem writeBayCfg_stores (i : Nat) (c : BayCfg) (s : State) :
    Stores 0 i (encodeBayCfg c) (writeBayCfg (Fin.ofNat 24 i) c) s := by
  obtain ⟨-, -, -, hc⟩ := withBayCfg_settings (Fin.ofNat 24 i) c s
  refine .of _ (writeBayCfg_readsAlike ..) (congrArg encodeBayCfg hc) ?_ (withBayCfg_position ..)
  rw [withBayCfg_rest]
  rfl

theorem fieldSlot_congr {s t : State} (h : t.loop.position = s.loop.position) (b : BayIx) (f : SlotField) :
    fieldSlot t b f = fieldSlot s b f := by
  cases f <;> simp only [fieldSlot, h]

/-- The map of the state with the entry stored is resolved: with the slot field as it was, no claim changes. -/
theorem withBayCfg_mapResolved {s : State} (h : MapResolved s) (b : BayIx) (c : BayCfg) :
    MapResolved (withBayCfg b c s) := by
  unfold withBayCfg
  split
  · next same =>
    have claims : claim (s.setBayCfg b c) = claim s := by
      funext d
      have slot : ((s.setBayCfg b c).bayCfg d).slot = (s.bayCfg d).slot := by
        by_cases hd : d = b
        · rw [hd, State.bayCfg_setBayCfg_same, same]
        · rw [State.bayCfg_setBayCfg_other _ _ hd]
      rw [claim, claim, slot, fieldSlot_congr (s := s) rfl]
      rfl
    have ranks : outranked (s.setBayCfg b c) = outranked s := by
      funext d
      rw [outranked, outranked, claims]
    have slots : resolvedSlot (s.setBayCfg b c) = resolvedSlot s := by
      funext d
      rw [resolvedSlot, resolvedSlot, ranks, claims]
    rw [MapResolved, slots, ranks]
    exact h
  · exact resolveMap_mapResolved _

/-- A slot that a bay claims is owned by that bay or by a bay below it (R157). -/
theorem exists_owner {s : State} {d : BayIx} {k : Nat} (h : claim s d = some k) : ∃ m ≤ d, resolvedSlot s m = some k := by
  induction d using WellFoundedLT.induction with
  | _ d ih =>
    by_cases ho : outranked s d = true
    · simp only [outranked, Bool.and_eq_true, List.any_eq_true, decide_eq_true_eq] at ho
      obtain ⟨-, e, -, hlt, he⟩ := ho
      obtain ⟨m, hm, hs⟩ := ih e hlt (he.trans h)
      exact ⟨m, hm.trans hlt.le, hs⟩
    · exact ⟨d, le_rfl, by rw [resolvedSlot, if_neg ho, h]⟩

/-- A slot field that no other bay owned when it was stored is owned by no other bay after. -/
theorem not_slotTaken_after {s u : State} {b : BayIx} {f : SlotField} (hs : MapResolved s)
    (hu : u.loop.slotMap = Vector.ofFn (resolvedSlot u)) (hr : u.rst = s.rst) (hp : u.loop.position = s.loop.position)
    (hc : ∀ d, d ≠ b → u.bayCfg d = s.bayCfg d) (hb : (u.bayCfg b).slot = f) (h : ¬ SlotTaken s b f) :
    ¬ SlotTaken u b f := by
  have populated : ∀ d, u.populated d = s.populated d := fun d => by simp only [State.populated, hr]
  rintro ⟨pop, d, hd, hsome, heq⟩
  obtain ⟨k, hk⟩ := Option.isSome_iff_exists.mp hsome
  have field : fieldSlot u b f = some k := heq.symm.trans hk
  rw [hu, Vector.get_ofFn, resolvedSlot] at hk
  split at hk
  · cases hk
  · next hfirst =>
    have hclaim : claim u b = some k := by rw [claim, if_pos pop, hb, field]
    have below : d < b := by
      refine lt_of_le_of_ne (not_lt.mp fun hlt => hfirst ?_) hd
      simp only [outranked, Bool.and_eq_true, List.any_eq_true, decide_eq_true_eq]
      exact ⟨by rw [hk]; rfl, b, mem_allBays b, hlt, hclaim.trans hk.symm⟩
    have before : claim s d = some k := by
      rw [← hk, claim, claim, populated, hc d hd, fieldSlot_congr hp]
    obtain ⟨m, hm, hown⟩ := exists_owner before
    refine h ⟨populated b ▸ pop, m, (lt_of_le_of_lt hm below).ne, ?_⟩
    rw [hs.1, Vector.get_ofFn, hown, ← fieldSlot_congr hp, field]
    exact ⟨rfl, rfl⟩

theorem putBayCfg_rewritable {s : State} (hs : MapResolved s) (i : Nat) (e : List Byte) :
    Rewritable 0 i s (putBayCfg (Fin.ofNat 24 i) e s) := by
  unfold putBayCfg
  split
  · exact rewritable_refuse _
  · next c hdec =>
    split
    · exact rewritable_refuse _
    · next hfree =>
      rintro _ _ ⟨⟩
      refine ⟨encodeBayCfg c, writeBayCfg_stores i c s, fun u hu => ⟨_, ?_, writeBayCfg_stores i c u⟩⟩
      have alike := (writeBayCfg_readsAlike (Fin.ofNat 24 i) c s).event.trans hu
      have still : ¬ duplicates u (Fin.ofNat 24 i) c.slot = true := by
        rw [duplicates_iff] at hfree ⊢
        obtain ⟨hslots, -⟩ := resolvedSlot_congr alike.rst alike.position alike.cfg
        obtain ⟨-, -, -, hc⟩ := withBayCfg_settings (Fin.ofNat 24 i) c s
        have cfg : u.bayCfg = (withBayCfg (Fin.ofNat 24 i) c s).bayCfg := by
          funext d
          simp only [State.bayCfg, alike.cfg]
        refine not_slotTaken_after hs ?_ ?_ (alike.position.trans (withBayCfg_position ..)) (fun d hd => ?_) ?_ hfree
        · rw [alike.slotMap, hslots, (withBayCfg_mapResolved hs ..).1]
        · rw [alike.rst, withBayCfg_rest]
          rfl
        · rw [cfg, withBayCfg_bayCfg_other hd]
        · rw [cfg, hc]
      simp only [putEntry, putBayCfg, decodeBayCfg_encode (decodeBayCfg_inRange hdec), if_neg still]

end Sys2Proof.Machine
end

section
/-! PROOFS. Stored entries read back (R178, R180, R193, 10, section 10.4). -/

namespace Sys2Proof.Machine

open Sys2Proof.Safety

/-! ### The bytes, field by field -/

/-- The number of a set of conditions, each with the place it has among them. -/
theorem encodeConds_zipIdx (l : List Cond) :
    (allConds.zipIdx.map fun p => if p.1 ∈ l then 2 ^ p.2 else 0).sum = encodeConds l := by
  simp only [encodeConds, allConds_zipIdx, List.map_map, Function.comp_def, decide_eq_true_eq]

/-! ### What a put comes to -/

theorem putEntry_rewritable {s : State} (hs : MapResolved s) (table i : Nat) (e : List Byte) :
    Rewritable table i s (putEntry table i e s) := by
  match table with
  | 0 => exact putBayCfg_rewritable hs i e
  | 1 => exact putEntry1_rewritable e
  | 2 => exact putEntry2_rewritable e
  | 3 => exact putEntry3_rewritable e
  | 4 => exact putEntry4_rewritable e
  | 5 => exact putEntry5_rewritable e
  | 6 => exact putEntry6_rewritable e
  | 7 => exact putEntry7_rewritable e
  | 8 => exact putEntry8_rewritable e
  | 9 =>
    match i with
    | 0 => exact putPart0_rewritable e
    | 1 => exact putPart1_rewritable e
    | 2 => exact putPart2_rewritable e
    | 3 => exact putPart3_rewritable e
    | 4 => exact putPart4_rewritable e
    | k + 5 => exact putPart5_rewritable k e
  | n + 10 => exact rewritable_refuse _

/-- A refusal says so in its result. -/
def Put.RefusesOpenly (p : Put) : Prop := ∀ r, p = .refuse r → r ≠ .ok ∧ r ≠ .okClamped

theorem Put.refusesOpenly_of {α : Type} (x : Option (α × Bool)) (f : α → Work → Work) : (Put.of x f).RefusesOpenly := by
  cases x with
  | none =>
    rintro _ ⟨⟩
    exact ⟨nofun, nofun⟩
  | some y =>
    rintro _ ⟨⟩

theorem Put.refusesOpenly_store (m : Bool) (f : Work → Work) : (Put.store m f).RefusesOpenly := nofun

theorem putBayCfg_refusesOpenly (b : BayIx) (e : List Byte) (s : State) : (putBayCfg b e s).RefusesOpenly := by
  unfold putBayCfg
  split
  · rintro _ ⟨⟩
    exact ⟨nofun, nofun⟩
  · split
    · rintro _ ⟨⟩
      exact ⟨nofun, nofun⟩
    · exact Put.refusesOpenly_store _ _

theorem putPart_refusesOpenly (i : Nat) (e : List Byte) : (putPart i e).RefusesOpenly := by
  unfold putPart
  split
  case h_4 =>
    split
    · rintro _ ⟨⟩
      exact ⟨nofun, nofun⟩
    · exact Put.refusesOpenly_store _ _
  all_goals exact Put.refusesOpenly_store _ _

theorem putEntry_refusesOpenly (table i : Nat) (e : List Byte) (s : State) : (putEntry table i e s).RefusesOpenly := by
  match table with
  | 0 => exact putBayCfg_refusesOpenly _ _ _
  | 1 | 2 | 3 | 4 | 7 | 8 => exact Put.refusesOpenly_of _ _
  | 5 | 6 => exact Put.refusesOpenly_store _ _
  | 9 => exact putPart_refusesOpenly _ _
  | n + 10 =>
    rintro _ ⟨⟩
    exact ⟨nofun, nofun⟩

/-- A part placed as s and released as s takes what s took, once its reply hold is empty. -/
theorem takes_congr {s t : State} {dst : Byte} (h : Takes s dst) (hr : t.rst = s.rst)
    (hp : t.loop.position = s.loop.position) (hn : t.loop.reply = none) : Takes t dst := by
  obtain ⟨hreset, hpos, -⟩ := h
  exact ⟨by rwa [State.inReset, hr], by rwa [hp], hn⟩

section Window

variable {s t : State} {dst tag index : Byte} {entry : List Byte} {w : Window} (ht : Takes s dst) (hw : s.window = some w)
  (hi : index.toNat = w.pointer)

include ht hw hi

/-- An accepted TABLE PUT has stored, and the part answers with its window moved on. -/
theorem tablePut_accepted (h : exec (.tablePut dst tag index entry) s = .next t)
    (hr : ∃ r, t.loop.reply = some r ∧ (r.result = .ok ∨ r.result = .okClamped)) :
    ∃ m f r data, putEntry w.table w.pointer entry s = .store m f ∧
      t = answered { event f s with window := some w.advance } 12#8 tag r data := by
  obtain ⟨r, hreply, hresult⟩ := hr
  cases hput : putEntry w.table w.pointer entry s with
  | refuse q =>
    have refused := putEntry_refusesOpenly _ _ _ _ q hput
    have e := (tablePut_refuses ht hw hi hput tag).symm.trans h
    obtain rfl := Host.Outcome.next.inj e
    obtain rfl := Option.some.inj hreply
    exact absurd hresult (not_or.mpr refused)
  | store m f =>
    have e := (tablePut_stores ht hw hi hput rfl rfl tag).symm.trans h
    exact ⟨m, f, _, _, rfl, (Host.Outcome.next.inj e).symm⟩

/-- An entry stored by an accepted TABLE PUT through a window of that entry alone stores again as it reads, and reads the same
after (R178). -/
theorem stored_stores_again (hone : w.advance = w) (hmap : MapResolved s)
    (h : exec (.tablePut dst tag index entry) s = .next t)
    (hr : ∃ r, t.loop.reply = some r ∧ (r.result = .ok ∨ r.result = .okClamped)) :
    ∃ v r, exec (.tablePut dst tag index (getEntry w.table w.pointer t))
        { t with loop := { t.loop with reply := none } } = .next v ∧
      v.loop.reply = some r ∧ r.result = .ok ∧ getEntry w.table w.pointer v = getEntry w.table w.pointer t := by
  obtain ⟨m, f, r, data, hput, hanswer⟩ := tablePut_accepted ht hw hi h hr
  obtain ⟨bytes, hstores, again⟩ := putEntry_rewritable hmap _ _ _ m f hput
  have moved : ∀ x : State, ReadsAlike x { x with window := some w.advance } := fun _ => ⟨rfl⟩
  have stored : ReadsAlike (event f s) t := hanswer ▸ (moved _).trans (.answered ..)
  have ready : ReadsAlike (event f s) { t with loop := { t.loop with reply := none } } := stored.trans ⟨rfl⟩
  have takes : Takes { t with loop := { t.loop with reply := none } } dst :=
    takes_congr ht (ready.rst.trans hstores.rst) (ready.position.trans hstores.position) rfl
  have window : t.window = some w := by
    rw [hanswer, hone]
    rfl
  obtain ⟨g, hput', hstores'⟩ := again _ ready
  rw [stored.entry, hstores.entry]
  refine ⟨_, _, tablePut_stores takes window hi hput' rfl rfl tag, rfl, rfl, ?_⟩
  exact (((moved _).trans (.answered ..)).entry ..).trans hstores'.entry

end Window

/-- The number of a set of attention kinds is the sum of the weights of its members. -/
theorem encodeAttn_weights (a : AttnSet) :
    (if a.presence then 1#8 else 0#8) + 2#8 * (if a.power then 1#8 else 0#8) + 4#8 * (if a.fault then 1#8 else 0#8) +
      8#8 * (if a.resetDone then 1#8 else 0#8) + 16#8 * (if a.temperature then 1#8 else 0#8) = encodeAttn a := by
  obtain ⟨presence, power, fault, resetDone, temperature⟩ := a
  revert presence power fault resetDone temperature
  decide

/-- Settles O47: the bytes are those of the entry's fields; a stored entry's bytes decode to the entry again, unclamped, and
where the entry has a slot field, no other bay has come to own the slot. -/
theorem storedEntriesReadBack : Obligations.StoredEntriesReadBack := by
  unfold Obligations.StoredEntriesReadBack
  refine ⟨fun s => ?_, fun s t dst tag index entry table ht hmap _ _ hw h hr => ?_⟩
  · intro two signed flag kinds code conds
    have hkinds : ∀ a, kinds a = encodeAttn a := encodeAttn_weights
    have hcode : code = encodePattern := by
      funext p
      cases p <;> rfl
    have hconds : ∀ l, conds l = b16 (encodeConds l) := fun l => congrArg b16 (encodeConds_zipIdx l)
    have hsigned : ∀ v, signed v = s16 v := fun v => (s16_eq v).symm
    clear_value kinds code conds signed
    subst hcode
    simp only [hkinds, hconds, hsigned]
    refine ⟨fun b => ?bays, fun i => ?carriers, fun k => ?classes, fun i => ?patterns, fun i => ?rules, fun i => ?pending,
      fun i => ?active, fun z => ?zones, fun ch => ?sensors, fun f => ?fans, rfl, fun p hp => ?paceWaits, fun hp => ?pace,
      rfl, rfl, rfl, rfl⟩
    case paceWaits | pace =>
      simp only [getEntry, getPart, hp, Option.getD]
      rfl
    all_goals simp only [getEntry, fin_ofNat_val]
    case bays =>
      generalize s.bayCfg b = c
      obtain ⟨slot, zone, policy, override, cut, mask⟩ := c
      cases slot <;> cases policy <;> cases override <;> rfl
    case carriers => cases s.sup.carrierMap.get i <;> rfl
    case sensors =>
      generalize s.sensor ch = c
      obtain ⟨enabled, zone, negative, magnitude, span, intercept⟩ := c
      cases zone <;> rfl
    all_goals rfl
  · exact stored_stores_again (w := ⟨table, index.toNat, index.toNat, index.toNat⟩) ht hw rfl
      (by rw [Window.advance, if_pos rfl]) hmap h hr

end Sys2Proof.Machine
end

section
/-! PROOFS. The supply monitor (R77, R78), and the end of a conversion slot: the latch, the calibration, the choice of the
next channel, and the attempt when overdraw clears (R79, R87, R88, R90 to R92). -/

namespace Sys2Proof.Machine

/-! ### Supply monitor (R78) -/

theorem PowerAccount.judge_above {a : PowerAccount} {measured : Int} (h : (a.ceiling : Int) + a.margin < measured) :
    a.judge measured =
      { a with
        overStreak := min 3 (a.overStreak + 1), clearStreak := 0
        overdraw := a.overdraw || min 3 (a.overStreak + 1) == 3 } :=
  if_pos (by omega)

theorem PowerAccount.judge_within {a : PowerAccount} {measured : Int} (h : measured ≤ (a.ceiling : Int) + a.margin) :
    a.judge measured =
      { a with
        overStreak := 0, clearStreak := min 3 (a.clearStreak + 1)
        overdraw := a.overdraw && min 3 (a.clearStreak + 1) != 3 } :=
  if_neg (by omega)

/-- A judgement leaves the settings of table 9 and the fan reserve. -/
theorem PowerAccount.judge_settings (a : PowerAccount) (measured : Int) :
    (a.judge measured).ceiling = a.ceiling ∧ (a.judge measured).guardBand = a.guardBand ∧
      (a.judge measured).margin = a.margin ∧ (a.judge measured).fanReserve = a.fanReserve := by
  rcases lt_or_ge ((a.ceiling : Int) + a.margin) measured with h | h
  · rw [judge_above h]
    exact ⟨rfl, rfl, rfl, rfl⟩
  · rw [judge_within h]
    exact ⟨rfl, rfl, rfl, rfl⟩

/-- A streak counts up and stops at 3. -/
theorem streak_next {n : Nat} (h : n ≤ 3) : min 3 (n + 1) = if n = 3 then 3 else n + 1 := by
  split <;> omega

/-- A streak comes to 3, or stays there, from 2 on. -/
theorem streak_full_iff (n : Nat) : min 3 (n + 1) = 3 ↔ 2 ≤ n := by omega

/-- Settles O17: the two sides of the threshold are the two branches of the judgement. -/
theorem supplyMonitorJudges : Obligations.SupplyMonitorJudges := by
  intro a measured hover hclear
  obtain ⟨ceiling, guardBand, margin, reserve⟩ := a.judge_settings measured
  refine ⟨fun above => ?_, fun within => ?_, ceiling, guardBand, margin, reserve, fun hc hm => Nat.add_le_add hc hm⟩
  · rw [PowerAccount.judge_above above]
    exact ⟨streak_next hover, rfl, by simp only [Bool.or_eq_true, beq_iff_eq, streak_full_iff]⟩
  · rw [PowerAccount.judge_within within]
    refine ⟨rfl, streak_next hclear, ?_⟩
    simp only [Bool.and_eq_true, bne_iff_ne, ne_eq, streak_full_iff, not_le]

/-! ### The next channel (R87) -/

theorem lowestChannel_iff {p : ChannelIx → Bool} {ch : ChannelIx} :
    allChannels.find? p = some ch ↔ p ch = true ∧ ∀ d, d < ch → p d = false := by
  rw [allChannels, ← Fin.find?_eq_find?_finRange, Fin.find?_eq_some_iff]

theorem nextChannel_none (s : State) :
    nextChannel s.scan.sensors none = allChannels.find? fun ch => (s.sensor ch).enabled := by
  simp [nextChannel, State.sensor]

theorem nextChannel_some (s : State) (p : ChannelIx) :
    nextChannel s.scan.sensors (some p) =
      (allChannels.find? fun ch => (s.sensor ch).enabled && decide (p < ch)).or (nextChannel s.scan.sensors none) := by
  have above : ((allChannels.filter fun ch => (s.scan.sensors.get ch).enabled).filter (p < ·)).head? =
      allChannels.find? fun ch => (s.sensor ch).enabled && decide (p < ch) := by
    simp [List.filter_filter, Bool.and_comm, State.sensor]
  rw [← above]
  unfold nextChannel
  dsimp only
  generalize (allChannels.filter fun ch => (s.scan.sensors.get ch).enabled).filter (p < ·) = above
  cases above <;> rfl

/-- The choice: the lowest enabled channel above the pointer, and where there is none, the lowest enabled channel. -/
theorem nextChannel_eq_some_iff (s : State) (ch : ChannelIx) :
    nextChannel s.scan.sensors s.scan.pointer = some ch ↔
      (s.sensor ch).enabled = true ∧
        ((∃ p, s.scan.pointer = some p ∧ p < ch ∧ ∀ d, p < d → d < ch → (s.sensor d).enabled = false) ∨
          ((∀ p, s.scan.pointer = some p → ∀ d, p < d → (s.sensor d).enabled = false) ∧
            ∀ d, d < ch → (s.sensor d).enabled = false)) := by
  have lowest : nextChannel s.scan.sensors none = some ch ↔
      (s.sensor ch).enabled = true ∧ ∀ d, d < ch → (s.sensor d).enabled = false := by
    rw [nextChannel_none, lowestChannel_iff]
  cases s.scan.pointer with
  | none => simp [lowest]
  | some p =>
    have above : (allChannels.find? fun ch => (s.sensor ch).enabled && decide (p < ch)) = some ch ↔
        (s.sensor ch).enabled = true ∧ p < ch ∧ ∀ d, p < d → d < ch → (s.sensor d).enabled = false := by
      rw [lowestChannel_iff]
      grind
    have noneAbove : (allChannels.find? fun ch => (s.sensor ch).enabled && decide (p < ch)) = none ↔
        ∀ d, p < d → (s.sensor d).enabled = false := by
      rw [allChannels, ← Fin.find?_eq_find?_finRange, Fin.find?_eq_none_iff]
      grind
    rw [nextChannel_some, Option.or_eq_some_iff, above, noneAbove, lowest]
    simp only [Option.some.injEq, exists_eq_left', forall_eq']
    rw [and_left_comm (b := (s.sensor ch).enabled = true), ← and_or_left]

theorem chooseChannel_eq (s : State) :
    chooseChannel s =
      { s with
        scan :=
          { s.scan with
            pointer := (nextChannel s.scan.sensors s.scan.pointer).or s.scan.pointer
            converting := (nextChannel s.scan.sensors s.scan.pointer).map (⟨·, false⟩) } } := by
  unfold chooseChannel
  cases nextChannel s.scan.sensors s.scan.pointer <;> rfl

/-! ### The latch (R88, R90 to R92) -/

/-- The offset is taken off no further than to 0, or added up to 4095 (R90). -/
theorem correct_eq (c : SensorCfg) (raw : Nat) :
    correct c raw =
      if c.negative then (if raw ≤ 2 * c.magnitude then 0 else raw - 2 * c.magnitude)
      else min 4095 (raw + 2 * c.magnitude) := by
  unfold correct
  split
  · split <;> omega
  · rfl

theorem convert_codes (ch : ChannelIx) (c : SensorCfg) (raw : Nat) :
    (convert ch c raw).raw = raw ∧ (convert ch c raw).corrected = correct c raw := by
  unfold convert
  dsimp only
  split <;> exact ⟨rfl, rfl⟩

theorem convert_supply (c : SensorCfg) (raw : Nat) :
    convert 8 c raw = ⟨raw, correct c raw, (correct c raw * c.span / 4096 : Nat), true⟩ := rfl

theorem convert_temperature {ch : ChannelIx} (h : ch ≠ 8) (c : SensorCfg) (raw : Nat) :
    convert ch c raw =
      ⟨raw, correct c raw, clampInt (-80) 255 (c.intercept + (correct c raw * c.span / 4096 : Nat)),
        raw != 0 && raw != 4095⟩ :=
  if_neg h

/-- The record that a conversion of channel ch ending now latches. -/
def State.reading (s : State) (ch : ChannelIx) : Channel :=
  convert ch (s.sensor ch) (s.io.pins.analog.get ch).toNat

theorem latch_eq (ch : ChannelIx) (s : State) :
    latch ch s =
      { s.setChannel ch (s.reading ch) with acct := if ch = 8 then s.acct.judge (s.reading ch).value else s.acct } := by
  unfold latch
  dsimp only
  split <;> rfl

@[simp] theorem latch_channel_same (ch : ChannelIx) (s : State) : (latch ch s).channel ch = s.reading ch := by
  rw [latch_eq]
  exact State.channel_setChannel_same ..

theorem latch_channel_other {ch other : ChannelIx} (h : other ≠ ch) (s : State) :
    (latch ch s).channel other = s.channel other := by
  rw [latch_eq]
  exact State.channel_setChannel_other _ _ h

theorem latch_acct (ch : ChannelIx) (s : State) :
    (latch ch s).acct = if ch = 8 then s.acct.judge (s.reading ch).value else s.acct := by
  rw [latch_eq]

/-- The state with the result of the slot's conversion latched, unless there was none or it was cancelled (R87, R88). -/
def conversionLatched (s : State) : State :=
  match s.scan.converting with
  | some k => if k.cancelled then s else latch k.channel s
  | none => s

theorem conversionLatched_of_underWay {s : State} {k : Conversion} (h : s.scan.converting = some k)
    (hk : k.cancelled = false) : conversionLatched s = latch k.channel s := by
  simp [conversionLatched, h, hk]

theorem conversionLatched_of_missing {s : State}
    (h : s.scan.converting = none ∨ ∃ k, s.scan.converting = some k ∧ k.cancelled = true) : conversionLatched s = s := by
  rcases h with h | ⟨k, h, hk⟩
  · simp [conversionLatched, h]
  · simp [conversionLatched, h, hk]

/-- A property of the state as it was and of every latch of it holds after the latch. -/
theorem conversionLatched_kept {P : State → Prop} {s : State} (same : P s) (latched : ∀ ch, P (latch ch s)) :
    P (conversionLatched s) := by
  unfold conversionLatched
  split
  · split
    · exact same
    · exact latched _
  · exact same

/-- A latch changes the channel records and the account. -/
theorem conversionLatched_eq (s : State) :
    conversionLatched s =
      { s with
        scan := { s.scan with channels := (conversionLatched s).scan.channels }, acct := (conversionLatched s).acct } :=
  conversionLatched_kept (P := fun t => t = { s with scan := { s.scan with channels := t.scan.channels }, acct := t.acct })
    rfl fun ch => by rw [latch_eq]; rfl

theorem conversionLatched_fanReserve (s : State) : (conversionLatched s).acct.fanReserve = s.acct.fanReserve := by
  refine conversionLatched_kept (P := fun t => t.acct.fanReserve = s.acct.fanReserve) rfl fun ch => ?_
  rw [latch_acct]
  split
  · obtain ⟨-, -, -, reserve⟩ := s.acct.judge_settings (s.reading ch).value
    exact reserve
  · rfl

/-! ### The end of the slot (R79, R87) -/

theorem endSlot_eq (s : State) :
    endSlot s =
      { s with
        scan :=
          { s.scan with
            channels := (conversionLatched s).scan.channels
            pointer := (nextChannel s.scan.sensors s.scan.pointer).or s.scan.pointer
            converting := (nextChannel s.scan.sensors s.scan.pointer).map (⟨·, false⟩)
            slotDue := false }
        acct := (conversionLatched s).acct } := by
  have chosen : endSlot s =
      chooseChannel { conversionLatched s with scan := { (conversionLatched s).scan with slotDue := false } } := rfl
  rw [chosen, conversionLatched_eq s, chooseChannel_eq]

theorem endSlot_channel (s : State) (ch : ChannelIx) : (endSlot s).channel ch = (conversionLatched s).channel ch := by
  rw [endSlot_eq]
  rfl

theorem endSlot_acct (s : State) : (endSlot s).acct = (conversionLatched s).acct := by rw [endSlot_eq]

/-- Nothing that an attempt point looks at moves at the end of a slot but the overdraw condition (R58, R79). -/
theorem takeConversion_eq (s : State) :
    takeConversion s =
      if s.acct.overdraw = true ∧ (endSlot s).acct.overdraw = false then attempt (endSlot s) else endSlot s := by
  have draw : (endSlot s).committed = s.committed := by
    rw [endSlot_eq]
    rfl
  have zones : (endSlot s).cool.zones = s.cool.zones := by rw [endSlot_eq]
  have reserve : (endSlot s).acct.fanReserve = s.acct.fanReserve := by
    rw [endSlot_acct, conversionLatched_fanReserve]
  have cleared : fellOrCleared s (endSlot s) = (s.acct.overdraw && !(endSlot s).acct.overdraw) := by
    simp [fellOrCleared, draw, reserve, holdCleared_of_zones_eq zones]
  rw [takeConversion, event_noEntries (t := endSlot s) (o := false) rfl, cleared]
  simp

theorem exec_conversionEnd_due {s : State} (h : s.inReset = false) (hd : s.scan.slotDue = true) :
    exec .conversionEnd s = .next (takeConversion s) := by
  show execConversionEnd s = _
  rw [execConversionEnd, live_next h, if_pos hd]

/-- Settles O16: the latch by the conversion under way, and the choice by the enabled channels about the pointer. -/
theorem conversionEndCompletes : Obligations.ConversionEndCompletes := by
  intro s hr hd
  refine ⟨endSlot s, by rw [exec_conversionEnd_due hr hd, takeConversion_eq], ?rest, ?scan, fun k hk hc => ?latched,
    fun h => ?missing, fun k => ?begun, ?idle, fun ch => ?chosen⟩
  case rest | scan => rw [endSlot_eq]
  case latched =>
    intro c raw corrected
    have hcorrected : corrected = correct c raw := (correct_eq c raw).symm
    have under := conversionLatched_of_underWay hk hc
    have same : (endSlot s).channel k.channel = convert k.channel c raw := by
      rw [endSlot_channel, under, latch_channel_same]
      rfl
    have acct : (endSlot s).acct = if k.channel = 8 then s.acct.judge (convert k.channel c raw).value else s.acct := by
      rw [endSlot_acct, under, latch_acct]
      rfl
    obtain ⟨hraw, hcorr⟩ := convert_codes k.channel c raw
    rw [hcorrected, same]
    refine ⟨hraw, hcorr, fun temperature => ?_, fun supply => ?_, fun ch other => ?_⟩
    · rw [acct, if_neg temperature, convert_temperature temperature]
      exact ⟨rfl, by simp, rfl⟩
    · rw [acct, if_pos supply, ← supply, same, supply, convert_supply]
      exact ⟨rfl, rfl, rfl⟩
    · rw [endSlot_channel, under, latch_channel_other other]
  case missing =>
    rw [endSlot_eq, conversionLatched_of_missing h]
    exact ⟨rfl, rfl⟩
  case begun =>
    rw [endSlot_eq]
    cases nextChannel s.scan.sensors s.scan.pointer <;> grind
  case idle =>
    rw [endSlot_eq]
    cases nextChannel s.scan.sensors s.scan.pointer <;> simp
  case chosen =>
    rw [← nextChannel_eq_some_iff, endSlot_eq]
    simp

end Sys2Proof.Machine
end

section
/-! PROOFS. A bay temperature record turns stale (R99, R100). -/

namespace Sys2Proof.Machine

/-- A record's turning stale is due from the effective limit on, until it has been taken (R99, R100). -/
theorem staleDue_eq_true_iff {s : State} {b : BayIx} {t : TempRec} (ht : s.temp b = some t) :
    staleDue s b = true ↔ t.stale = false ∧ min 65535 (s.scan.staleness * 1000) ≤ t.age := by
  simp only [staleDue, ht, Bool.and_eq_true, Bool.not_eq_true', decide_eq_true_eq]
  rfl

theorem turnStale_of_present {s : State} {b : BayIx} {t : TempRec} (ht : s.temp b = some t) :
    turnStale b s = (s.setTemp b (some { t with stale := true, hot := false })).setBay b
      { s.bay b with attn := { (s.bay b).attn with temperature := true } } := by
  simp only [turnStale, ht, State.raise, Bay.raise, State.bay_setTemp, AttnSet.union_onlyTemperature]

/-- Neither a bay's class nor its state is in its temperature record or its attention (R66). -/
theorem turnStale_committed (b : BayIx) (s : State) : (turnStale b s).committed = s.committed := by
  cases ht : s.temp b with
  | none => simp only [turnStale, ht]
  | some t =>
    rw [turnStale_of_present ht]
    exact (State.committed_setBay (State.draw_congr rfl (by simp) (by simp))).trans (State.committed_same rfl rfl)

theorem turnStale_acct (b : BayIx) (s : State) : (turnStale b s).acct = s.acct := by
  unfold turnStale
  split <;> rfl

theorem turnStale_zones (b : BayIx) (s : State) : (turnStale b s).cool.zones = s.cool.zones := by
  unfold turnStale
  split <;> rfl

/-- Turning stale is no attempt point (R58): the event is the change of the record and the attention alone. -/
theorem takeStale_of_due {s : State} {b : BayIx} (h : staleDue s b = true) : takeStale b s = turnStale b s := by
  rw [takeStale, if_pos h, event_map (turnStale_committed b s) (turnStale_acct b s) (turnStale_zones b s)]

/-- Settles O18: the record has come of age, so its turning stale is taken, and no admission attempt follows it. -/
theorem temperatureStaleCompletes : Obligations.TemperatureStaleCompletes := by
  intro s b t hb ht fresh aged
  have row : exec (.temperatureStale b.val) s = .next (takeStale b s) := onBay_next hb _
  have due : staleDue s b = true := (staleDue_eq_true_iff ht).mpr ⟨fresh, aged⟩
  rw [row, takeStale_of_due due, turnStale_of_present ht]

end Sys2Proof.Machine
end

section
/-! PROOFS. What each stage of a cooling update leaves: the zones and the fans after `mapZones` and `mapFans`, and the update
as a whole, zone by zone and fan by fan (R107). -/

namespace Sys2Proof.Machine

open Sys2Proof.Safety

/-! ### Changing every zone or every fan -/

@[simp] theorem State.zone_mapZones (g : ZoneIx → Zone → Zone) (s : State) (z : ZoneIx) :
    (mapZones g s).zone z = g z (s.zone z) := by
  simp [mapZones, State.zone, Vector.get_eq_getElem]

@[simp] theorem State.fan_mapZones (g : ZoneIx → Zone → Zone) (s : State) (f : FanIx) :
    (mapZones g s).fan f = s.fan f := rfl

@[simp] theorem State.zone_mapFans (g : FanIx → Fan → Fan) (s : State) (z : ZoneIx) :
    (mapFans g s).zone z = s.zone z := rfl

/-- t is s but for the zone and fan records. -/
def OnlyCooled (s t : State) : Prop :=
  t = { s with cool := { s.cool with zones := t.cool.zones, fans := t.cool.fans } }

theorem OnlyCooled.trans {s t u : State} (h : OnlyCooled s t) (k : OnlyCooled t u) : OnlyCooled s u := by
  unfold OnlyCooled at *
  rw [k, h]

theorem mapZones_onlyCooled (g : ZoneIx → Zone → Zone) (s : State) : OnlyCooled s (mapZones g s) := rfl

theorem mapFans_onlyCooled (g : FanIx → Fan → Fan) (s : State) : OnlyCooled s (mapFans g s) := rfl

/-- Whether a zone has a FAILED fan is in the fan table and the states of the fans alone. -/
theorem zoneHasFailure_congr {s t : State} (hc : t.cool.fanCfg = s.cool.fanCfg)
    (hf : ∀ f, (t.fan f).state = (s.fan f).state) (z : ZoneIx) : zoneHasFailure t z = zoneHasFailure s z := by
  rw [Bool.eq_iff_iff]
  simp only [zoneHasFailure_iff, State.fanCfg, hc, hf]

/-- R124, spelled out. -/
theorem holdOf_iff (s : State) (z : ZoneIx) :
    holdOf s z = true ↔
      zoneHasFailure s z = true ∨ ∃ t, (s.zone z).temp = some t ∧ (s.zoneCfg z).holdTemp ≤ t := by
  unfold holdOf
  cases (s.zone z).temp <;> simp

/-- The hold of a zone is in its FAILED fans, its temperature and its hold temperature alone (R124). -/
theorem holdOf_congr {s t : State} {z : ZoneIx} (hf : zoneHasFailure t z = zoneHasFailure s z)
    (ht : (t.zone z).temp = (s.zone z).temp) (hc : t.cool.zoneCfg = s.cool.zoneCfg) : holdOf t z = holdOf s z := by
  rw [Bool.eq_iff_iff]
  simp only [holdOf_iff, State.zoneCfg, hf, ht, hc]

/-- The reserve is in the fan table, the states of the fans and their applied duties alone (R123). -/
theorem reserve_congr {s t : State} (hc : t.cool.fanCfg = s.cool.fanCfg)
    (hf : ∀ f, (t.fan f).state = (s.fan f).state ∧ (t.fan f).applied = (s.fan f).applied) : reserve t = reserve s := by
  have share : fanShare t = fanShare s := by
    funext f
    unfold fanShare State.fanCfg
    rw [hc, (hf f).1, (hf f).2]
  rw [reserve, share, reserve]

@[simp] theorem recomputeHolds_zone (s : State) (z : ZoneIx) :
    (recomputeHolds s).zone z = { s.zone z with hold := holdOf s z } := State.zone_mapZones ..

/-- Recomputing the holds leaves what they are computed from. -/
theorem holdOf_recomputeHolds (s : State) (z : ZoneIx) : holdOf (recomputeHolds s) z = holdOf s z :=
  holdOf_congr rfl (by rw [recomputeHolds_zone]) rfl

/-! ### The stages -/

/-- The record of a fan after the tach judgement of an update (R120, R122). -/
def judgedFan (s : State) (f : FanIx) : Fan := judgeFan (s.fanCfg f) s.cool.periodLength (s.fan f)

theorem stageTach_fan (s : State) (f : FanIx) : (stageTach s).fan f = judgedFan s f := State.fan_mapFans ..

theorem stageTach_zone (s : State) (z : ZoneIx) :
    (stageTach s).zone z = { s.zone z with fanFailed := zoneHasFailure (stageTach s) z } := State.zone_mapZones ..

theorem stageTach_onlyCooled (s : State) : OnlyCooled s (stageTach s) := by
  unfold stageTach
  exact (mapFans_onlyCooled _ s).trans (mapZones_onlyCooled _ _)

/-- The readings look at the sensors, the bays and the tables alone (R108). -/
theorem zoneReadings_congr {s t : State} (h : OnlyCooled s t) (z : ZoneIx) : zoneReadings t z = zoneReadings s z := by
  rw [h]
  rfl

/-- So does the check for a critical bay (R113). -/
theorem zoneCritical_congr {s t : State} (h : OnlyCooled s t) (z : ZoneIx) : zoneCritical t z = zoneCritical s z := by
  rw [h]
  rfl

/-- The state that the first two stages leave: the fans are judged, and every zone has its fan-failed field and its
temperature. -/
abbrev measured (s : State) : State := stageTemps (stageTach s)

theorem measured_zone (s : State) (z : ZoneIx) :
    (measured s).zone z =
      { s.zone z with
        fanFailed := zoneHasFailure (stageTach s) z, temp := largest (zoneReadings s z)
        inputs := (zoneReadings s z).length } := by
  rw [measured, stageTemps, State.zone_mapZones, stageTach_zone, zoneReadings_congr (stageTach_onlyCooled s)]

theorem measured_onlyCooled (s : State) : OnlyCooled s (measured s) :=
  (stageTach_onlyCooled s).trans (mapZones_onlyCooled _ _)

/-- The zone record from which the fans are driven. -/
theorem stageDemands_zone (s : State) (z : ZoneIx) :
    (stageDemands s).zone z = { s.zone z with demand := (demandOf s z).1, source := (demandOf s z).2 } :=
  State.zone_mapZones ..

theorem stageFans_fan (s : State) (f : FanIx) :
    (stageFans s).fan f =
      driveFan (s.fanCfg f) (s.zone (s.fanCfg f).zone) s.cool.upStep s.cool.downStep (s.fan f) := State.fan_mapFans ..

/-- The state that the four stages of the Cooling Controller's own records leave. -/
abbrev driven (s : State) : State := stageFans (stageDemands (measured s))

theorem driven_onlyCooled (s : State) : OnlyCooled s (driven s) :=
  ((measured_onlyCooled s).trans (mapZones_onlyCooled _ _)).trans (mapFans_onlyCooled _ _)

theorem coolingStages_driven (s : State) :
    coolingStages s = recomputeHolds (handReserve (nextPeriod (driven s))) := rfl

/-- What an update leaves alone (R107). -/
theorem coolingStages_frame (s : State) :
    let u := coolingStages s
    u = { s with cool := u.cool, acct := u.acct } ∧ u.acct = { s.acct with fanReserve := reserve u } ∧
      u.cool = { s.cool with
        zones := u.cool.zones, fans := u.cool.fans, periodEnd := s.time.now + s.cool.period
        periodLength := s.cool.period } := by
  have only := driven_onlyCooled s
  rw [coolingStages_driven]
  generalize driven s = t at only
  intro u
  have rest : ∀ c a, { t with cool := c, acct := a } = { s with cool := c, acct := a } := fun c a => by rw [only]
  have handed : reserve u = reserve (nextPeriod t) := reserve_congr rfl fun _ => ⟨rfl, rfl⟩
  refine ⟨rest u.cool u.acct, ?_, ?_⟩
  · have acct : t.acct = s.acct := by rw [only]
    rw [← acct, handed]
    rfl
  · have time : t.time = s.time := by rw [only]
    have cool : ∀ zs fs e l, { t.cool with zones := zs, fans := fs, periodEnd := e, periodLength := l } =
        { s.cool with zones := zs, fans := fs, periodEnd := e, periodLength := l } := fun zs fs e l => by rw [only]
    have period : t.cool.period = s.cool.period := by rw [only]
    rw [← cool, ← time, ← period]
    rfl

theorem coolingStages_cfg (s : State) :
    (coolingStages s).cool.fanCfg = s.cool.fanCfg ∧ (coolingStages s).cool.zoneCfg = s.cool.zoneCfg ∧
      (coolingStages s).cool.activeCurves = s.cool.activeCurves := by
  obtain ⟨-, -, cool⟩ := coolingStages_frame s
  rw [cool]
  exact ⟨rfl, rfl, rfl⟩

@[simp] theorem State.zone_handReserve (s : State) (z : ZoneIx) : (handReserve s).zone z = s.zone z := rfl
@[simp] theorem State.fan_handReserve (s : State) (f : FanIx) : (handReserve s).fan f = s.fan f := rfl
@[simp] theorem State.zone_nextPeriod (s : State) (z : ZoneIx) : (nextPeriod s).zone z = s.zone z := rfl
@[simp] theorem State.fan_nextPeriod (s : State) (f : FanIx) : (nextPeriod s).fan f = s.fan f := rfl
@[simp] theorem State.fan_recomputeHolds (s : State) (f : FanIx) : (recomputeHolds s).fan f = s.fan f := rfl
@[simp] theorem State.zone_stageFans (s : State) (z : ZoneIx) : (stageFans s).zone z = s.zone z := rfl
@[simp] theorem State.fan_stageDemands (s : State) (f : FanIx) : (stageDemands s).fan f = s.fan f := rfl
@[simp] theorem State.fan_stageTemps (s : State) (f : FanIx) : (stageTemps s).fan f = s.fan f := rfl

/-- The demand of a zone and where it comes from are all that a fan takes from its zone (R114, R115). -/
theorem driveFan_congr {z y : Zone} (hd : z.demand = y.demand) (hs : z.source = y.source) (c : FanCfg) (up down : Nat)
    (x : Fan) : driveFan c z up down x = driveFan c y up down x := by
  unfold driveFan
  rw [hd, hs]

/-- A zone after an update, with the fan-failed field of stage 1. -/
theorem coolingStages_zone_tach (s : State) (z : ZoneIx) :
    (coolingStages s).zone z =
      { temp := largest (zoneReadings s z), inputs := (zoneReadings s z).length
        demand := (demandOf (measured s) z).1, source := (demandOf (measured s) z).2
        fanFailed := zoneHasFailure (stageTach s) z, hold := holdOf (coolingStages s) z } := by
  have zone : (coolingStages s).zone z =
      { (stageDemands (measured s)).zone z with hold := holdOf (coolingStages s) z } := by
    rw [coolingStages_driven, recomputeHolds_zone, holdOf_recomputeHolds, State.zone_handReserve, State.zone_nextPeriod,
      State.zone_stageFans]
  rw [zone, stageDemands_zone, measured_zone]

/-- A fan after an update: judged in stage 1, driven toward its zone's demand in stage 4. -/
theorem coolingStages_fan (s : State) (f : FanIx) :
    (coolingStages s).fan f =
      driveFan (s.fanCfg f) ((coolingStages s).zone (s.fanCfg f).zone) s.cool.upStep s.cool.downStep (judgedFan s f) := by
  have fan : (coolingStages s).fan f = (driven s).fan f := by simp [coolingStages_driven]
  have judged : (stageDemands (measured s)).fan f = judgedFan s f := by simp [stageTach_fan]
  have only : OnlyCooled s (stageDemands (measured s)) := (measured_onlyCooled s).trans (mapZones_onlyCooled _ _)
  have cfg : (stageDemands (measured s)).fanCfg f = s.fanCfg f := by rw [only]; rfl
  have up : (stageDemands (measured s)).cool.upStep = s.cool.upStep := by rw [only]
  have down : (stageDemands (measured s)).cool.downStep = s.cool.downStep := by rw [only]
  have demand : ((stageDemands (measured s)).zone (s.fanCfg f).zone).demand =
      ((coolingStages s).zone (s.fanCfg f).zone).demand := by rw [stageDemands_zone, coolingStages_zone_tach]
  have source : ((stageDemands (measured s)).zone (s.fanCfg f).zone).source =
      ((coolingStages s).zone (s.fanCfg f).zone).source := by rw [stageDemands_zone, coolingStages_zone_tach]
  rw [fan, stageFans_fan, judged, cfg, up, down, driveFan_congr demand source]

/-- What an update takes from the tach judgement: the drive leaves it, but for a fresh tach count (R107). -/
theorem coolingStages_fan_judged (s : State) (f : FanIx) :
    ((coolingStages s).fan f).state = (judgedFan s f).state ∧ ((coolingStages s).fan f).rpm = (judgedFan s f).rpm ∧
      ((coolingStages s).fan f).low = (judgedFan s f).low ∧ ((coolingStages s).fan f).good = (judgedFan s f).good ∧
      ((coolingStages s).fan f).tach = 0 := by
  rw [coolingStages_fan]
  unfold driveFan
  split <;> exact ⟨rfl, rfl, rfl, rfl, rfl⟩

theorem coolingStages_failure (s : State) (z : ZoneIx) :
    zoneHasFailure (stageTach s) z = zoneHasFailure (coolingStages s) z := by
  obtain ⟨cfg, -⟩ := coolingStages_cfg s
  refine zoneHasFailure_congr ?_ (fun f => ?_) z
  · rw [stageTach_onlyCooled s, cfg]
  · obtain ⟨state, -⟩ := coolingStages_fan_judged s f
    rw [stageTach_fan, state]

/-- A zone after an update (R107). -/
theorem coolingStages_zone (s : State) (z : ZoneIx) :
    (coolingStages s).zone z =
      { temp := largest (zoneReadings s z), inputs := (zoneReadings s z).length
        demand := (demandOf (measured s) z).1, source := (demandOf (measured s) z).2
        fanFailed := zoneHasFailure (coolingStages s) z, hold := holdOf (coolingStages s) z } := by
  rw [coolingStages_zone_tach, coolingStages_failure]

end Sys2Proof.Machine
end

section
/-! PROOFS. The tach judgement and the drive of a fan at a cooling update (R114, R115, R120 to R122). -/

namespace Sys2Proof.Machine

open Sys2Proof.Safety

/-! ### The tach judgement (R120, R122) -/

/-- A fan that is disabled, or was not checked through the period, is not judged. -/
theorem judgeFan_unjudged {c : FanCfg} {x : Fan} (h : c.enabled = false ∨ x.checked = false) (period : Nat) :
    judgeFan c period x = { x with rpm := rpmOf x.tach c.pulses period } := by
  have off : (c.enabled && x.checked) = false := by rcases h with h | h <;> simp [h]
  simp [judgeFan, off]

/-- A fan below its minimum rpm: the low streak counts up, and the third period running fails a NORMAL fan. -/
theorem judgeFan_slow {c : FanCfg} {x : Fan} {period : Nat} (h : c.enabled = true ∧ x.checked = true)
    (slow : rpmOf x.tach c.pulses period < c.minRpm) :
    judgeFan c period x =
      if x.state = .normal ∧ 2 ≤ x.low then
        { x with rpm := rpmOf x.tach c.pulses period, state := .failed, low := 0, good := 0 }
      else { x with rpm := rpmOf x.tach c.pulses period, low := min 3 (x.low + 1), good := 0 } := by
  simp [judgeFan, h.1, h.2, slow]

/-- A fan at its minimum rpm or above: the good streak counts up, and the third period running restores a FAILED fan. -/
theorem judgeFan_steady {c : FanCfg} {x : Fan} {period : Nat} (h : c.enabled = true ∧ x.checked = true)
    (steady : c.minRpm ≤ rpmOf x.tach c.pulses period) :
    judgeFan c period x =
      if x.state = .failed ∧ 2 ≤ x.good then
        { x with rpm := rpmOf x.tach c.pulses period, state := .normal, low := 0, good := 0 }
      else { x with rpm := rpmOf x.tach c.pulses period, low := 0, good := min 3 (x.good + 1) } := by
  simp [judgeFan, h.1, h.2, Nat.not_lt.mpr steady]

/-- The judgement sets the speed, the state and the streaks alone. -/
theorem judgeFan_frame (c : FanCfg) (period : Nat) (x : Fan) :
    let y := judgeFan c period x
    y = { x with rpm := rpmOf x.tach c.pulses period, state := y.state, low := y.low, good := y.good } := by
  by_cases h : c.enabled = true ∧ x.checked = true
  · rcases Nat.lt_or_ge (rpmOf x.tach c.pulses period) c.minRpm with slow | steady
    · rw [judgeFan_slow h slow]
      split <;> rfl
    · rw [judgeFan_steady h steady]
      split <;> rfl
  · rw [judgeFan_unjudged (by grind)]

/-- R118: the state and the streaks of a fan against its table entry. -/
def StreaksMatch (x : Fan) (c : FanCfg) : Prop :=
  (x.state = .disabled ↔ c.enabled = false) ∧ (c.enabled = false → x.low = 0 ∧ x.good = 0) ∧ x.low ≤ 3 ∧ x.good ≤ 3

theorem streaksMatch_of_fanMatches {x : Fan} {c : FanCfg} (h : FanMatches x c) : StreaksMatch x c := by
  obtain ⟨state, off, low, good, -⟩ := h
  exact ⟨state, fun he => ⟨(off he).2.2.1, (off he).2.2.2.1⟩, low, good⟩

/-- The judgement keeps a fan DISABLED or not, and its streaks at 3 or below. -/
theorem judgeFan_streaksMatch {x : Fan} {c : FanCfg} (h : StreaksMatch x c) (period : Nat) :
    StreaksMatch (judgeFan c period x) c := by
  by_cases on : c.enabled = true ∧ x.checked = true
  · obtain ⟨state, -, low, good⟩ := h
    have enabled : x.state ≠ .disabled := fun e => by simp [state.mp e] at on
    have judged : ∀ y : Fan, y.state ≠ .disabled → y.low ≤ 3 → y.good ≤ 3 → StreaksMatch y c := fun y hs hl hg =>
      ⟨iff_of_false hs (by simp [on.1]), fun off => by simp [on.1] at off, hl, hg⟩
    rcases Nat.lt_or_ge (rpmOf x.tach c.pulses period) c.minRpm with slow | steady
    · rw [judgeFan_slow on slow]
      split
      · exact judged _ (by simp) (by simp) (by simp)
      · exact judged _ enabled (Nat.min_le_left ..) (by simp)
    · rw [judgeFan_steady on steady]
      split
      · exact judged _ (by simp) (by simp) (by simp)
      · exact judged _ enabled (by simp) (Nat.min_le_left ..)
  · rw [judgeFan_unjudged (by grind)]
    exact h

/-! ### The drive (R114, R115, R121) -/

theorem driveFan_disabled {c : FanCfg} (h : c.enabled = false) (z : Zone) (up down : Nat) (x : Fan) :
    driveFan c z up down x = { x with target := 0, applied := 0, tach := 0, checked := false } := by
  simp [driveFan, h]

theorem driveFan_enabled {c : FanCfg} (h : c.enabled = true) (z : Zone) (up down : Nat) (x : Fan) :
    driveFan c z up down x =
      let target := max z.demand c.minDuty
      let applied := slew up down c.minDuty target x.applied z.source.full
      { x with target := target, applied := applied, tach := 0, checked := decide (32 ≤ applied) } := by
  simp [driveFan, h]

/-- Minimum (R115). -/
theorem minDuty_le_slew (up down minDuty target applied : Nat) (full : Bool) :
    minDuty ≤ slew up down minDuty target applied full := Nat.le_max_left ..

/-- Jump to full (R115). -/
theorem slew_full (up down : Nat) {minDuty target : Nat} (h : minDuty ≤ 255) (ht : target = 255) (applied : Nat) :
    slew up down minDuty target applied true = 255 := by
  simp [slew, ht, h]

section Slew

variable {minDuty target applied : Nat} {full : Bool} (up down : Nat) (h : ¬(target = 255 ∧ full = true))

include h

/-- Rising (R115). -/
theorem slew_rising (hr : applied < target) :
    slew up down minDuty target applied full = max minDuty (min target (applied + up)) := by
  simp [slew, h, hr]

/-- Falling (R115). -/
theorem slew_falling (hf : target < applied) :
    slew up down minDuty target applied full = max minDuty (max target (applied - down)) := by
  simp [slew, h, Nat.not_lt.mpr hf.le]

/-- At its target, a duty stays (R115). -/
theorem slew_still (hm : minDuty ≤ target) (hs : target = applied) :
    slew up down minDuty target applied full = applied := by
  subst hs
  simp only [slew, h, if_false, Nat.lt_irrefl]
  omega

end Slew

/-- A fan driven from a judged record agrees with its table entry (R118, R121). -/
theorem driveFan_fanMatches {x : Fan} {c : FanCfg} (h : StreaksMatch x c) (hm : c.minDuty ≤ 255) (z : Zone)
    (up down : Nat) : FanMatches (driveFan c z up down x) c := by
  obtain ⟨state, off, low, good⟩ := h
  cases he : c.enabled with
  | false =>
    rw [driveFan_disabled he]
    obtain ⟨low0, good0⟩ := off he
    exact ⟨by simpa [he] using state, fun _ => ⟨rfl, rfl, low0, good0, rfl⟩, low, good, hm, by simp [he], nofun⟩
  | true =>
    rw [driveFan_enabled he]
    exact ⟨state, by simp [he], low, good, hm, fun _ => minDuty_le_slew .., of_decide_eq_true⟩

theorem coolingStages_fanMatches {s : State} {f : FanIx} (h : FanMatches (s.fan f) (s.fanCfg f)) :
    FanMatches ((coolingStages s).fan f) (s.fanCfg f) := by
  obtain ⟨-, -, -, -, min, -⟩ := id h
  rw [coolingStages_fan]
  exact driveFan_fanMatches (judgeFan_streaksMatch (streaksMatch_of_fanMatches h) _) min _ _ _

/-! ### The fan table written (R119) -/

/-- A fan rewritten under a new entry agrees with it (R118, R121). -/
theorem fanRewritten_fanMatches {x : Fan} {old c : FanCfg} (h : FanMatches x old) (hm : c.minDuty ≤ 255) (z : Zone) :
    FanMatches (fanRewritten old c z x) c := by
  obtain ⟨state, off, low, good, -, duty, -⟩ := h
  unfold fanRewritten
  extract_lets target y
  cases hc : c.enabled with
  | false =>
    have stopped : y.state = .disabled ∧ y.target = 0 ∧ y.applied = 0 ∧ y.low = 0 ∧ y.good = 0 ∧ y.checked = false := by
      unfold y
      rw [if_pos hc]
      split
      · exact ⟨rfl, rfl, rfl, rfl, rfl, rfl⟩
      · next ho =>
        have ho : old.enabled = false := by simpa using ho
        exact ⟨state.mpr ho, off ho⟩
    obtain ⟨state, target, applied, low, good, checked⟩ := stopped
    simp [FanMatches, state, target, applied, low, good, checked, hc, hm]
  | true =>
    have running : y.state ≠ .disabled ∧ y.low ≤ 3 ∧ y.good ≤ 3 ∧ c.minDuty ≤ y.applied := by
      unfold y
      rw [if_neg (by simp [hc])]
      split
      · exact ⟨by simp, Nat.zero_le 3, Nat.zero_le 3, Nat.le_max_right ..⟩
      · next ho =>
        have enabled : x.state ≠ .disabled := fun e => ho (state.mp e)
        split
        · next same => exact ⟨enabled, low, good, same.2 ▸ duty (by simpa using ho)⟩
        · refine ⟨enabled, low, good, le_max_of_le_right ?_⟩
          split
          · exact Nat.le_max_right ..
          · exact Nat.le_refl _
    obtain ⟨state, low, good, applied⟩ := running
    simp [FanMatches, state, low, good, applied, hc, hm]

/-- An enabled fan at full duty still agrees with its entry. -/
theorem raised_fanMatches {x : Fan} {c : FanCfg} (h : FanMatches x c) (he : c.enabled = true) :
    FanMatches { x with target := 255, applied := 255 } c := by
  obtain ⟨state, -, low, good, min, -⟩ := h
  exact ⟨state, by simp [he], low, good, min, fun _ => min, fun _ => by simp⟩

end Sys2Proof.Machine
end

section
/-! PROOFS. The operations of the Cooling Controller keep the fans, the active curves, the handed reserve, the fan-failed fields
and the holds in agreement (R106, R111, R115, R118, R119, R121, R123, R124, R128). -/

namespace Sys2Proof.Machine

open Sys2Proof.Safety

/-! ### What keeps the agreement -/

/-- From s to t the Cooling Controller stays in agreement with its tables. -/
def Cools (s t : State) : Prop := CoolingMatches s → CoolingMatches t

theorem Cools.refl (s : State) : Cools s s := id

theorem Cools.trans {s t u : State} (h : Cools s t) (k : Cools t u) : Cools s u := k ∘ h

/-- The agreement is in the zones, the fans, their tables, the active curves and the reserve alone. -/
theorem Cools.same {s t : State} (zones : t.cool.zones = s.cool.zones) (zoneCfg : t.cool.zoneCfg = s.cool.zoneCfg)
    (fans : t.cool.fans = s.cool.fans) (fanCfg : t.cool.fanCfg = s.cool.fanCfg)
    (curves : t.cool.activeCurves = s.cool.activeCurves) (handed : t.acct.fanReserve = s.acct.fanReserve) : Cools s t := by
  rintro ⟨hfans, hcurves, hreserve, hfailed, hholds⟩
  have fan : ∀ f, t.fan f = s.fan f := fun f => by rw [State.fan, fans, State.fan]
  have zone : ∀ z, t.zone z = s.zone z := fun z => by rw [State.zone, zones, State.zone]
  have failure : ∀ z, zoneHasFailure t z = zoneHasFailure s z := zoneHasFailure_congr fanCfg fun f => by rw [fan]
  refine ⟨fun f => ?_, by rwa [curves], ?_, fun z => ?_, fun z => ?_⟩
  · rw [fan, State.fanCfg, fanCfg]
    exact hfans f
  · rw [handed, hreserve, reserve_congr fanCfg fun f => by rw [fan]; exact ⟨rfl, rfl⟩]
  · rw [zone, failure, hfailed]
  · rw [zone, hholds, holdOf_congr (failure z) (by rw [zone]) zoneCfg]

/-- A change that leaves the Cooling Controller and the handed reserve. -/
theorem Cools.aside {s t : State} (cool : t.cool = s.cool) (handed : t.acct.fanReserve = s.acct.fanReserve) : Cools s t :=
  .same (by rw [cool]) (by rw [cool]) (by rw [cool]) (by rw [cool]) (by rw [cool]) handed

/-- All of the agreement but the holds. -/
structure CoolingBut (s : State) : Prop where
  fans : ∀ f : FanIx, FanMatches (s.fan f) (s.fanCfg f)
  curves : ∀ z : ZoneIx, ascending s.cool.activeCurves z = true
  failed : ∀ z : ZoneIx, (s.zone z).fanFailed = zoneHasFailure s z

/-- Recomputing the holds completes the agreement (R124). -/
theorem recomputeHolds_coolingMatches {s : State} (h : CoolingBut s) (handed : s.acct.fanReserve = reserve s) :
    CoolingMatches (recomputeHolds s) := by
  have failure : ∀ z, zoneHasFailure (recomputeHolds s) z = zoneHasFailure s z := zoneHasFailure_congr rfl fun _ => rfl
  refine ⟨h.fans, h.curves, ?_, fun z => ?_, fun z => ?_⟩
  · exact handed.trans (reserve_congr rfl fun _ => ⟨rfl, rfl⟩)
  · rw [recomputeHolds_zone, failure, ← h.failed]
  · rw [recomputeHolds_zone, holdOf_recomputeHolds]

/-- So does a hand-over of the reserve with the holds after it (R119, R123, R124). -/
theorem handOver_coolingMatches {s : State} (h : CoolingBut s) : CoolingMatches (recomputeHolds (handReserve s)) := by
  have failure : ∀ z, zoneHasFailure (handReserve s) z = zoneHasFailure s z := zoneHasFailure_congr rfl fun _ => rfl
  have but : CoolingBut (handReserve s) := ⟨h.fans, h.curves, fun z => by rw [failure]; exact h.failed z⟩
  exact recomputeHolds_coolingMatches but (reserve_congr rfl fun _ => ⟨rfl, rfl⟩)

/-! ### The update and the tach pulse (R106, R120) -/

theorem coolingStages_cools (s : State) : Cools s (coolingStages s) := by
  rintro ⟨fans, curves, -⟩
  obtain ⟨-, acct, -⟩ := coolingStages_frame s
  obtain ⟨fanCfg, -, active⟩ := coolingStages_cfg s
  refine ⟨fun f => ?_, by rwa [active], by rw [acct], fun z => ?_, fun z => ?_⟩
  · rw [State.fanCfg, fanCfg]
    exact coolingStages_fanMatches (fans f)
  all_goals rw [coolingStages_zone]

/-- A fan's tach count is looked at by the next judgement alone. -/
theorem countTach_cools (f : FanIx) (s : State) : Cools s (countTach f s) := by
  have fan : ∀ g, (countTach f s).fan g = { s.fan g with tach := ((countTach f s).fan g).tach } := fun g => by
    unfold countTach
    by_cases hg : g = f
    · subst hg
      simp
    · simp [hg]
  rintro ⟨fans, curves, handed, failed, holds⟩
  have failure : ∀ z, zoneHasFailure (countTach f s) z = zoneHasFailure s z :=
    zoneHasFailure_congr rfl fun g => by rw [fan]
  have reserved : reserve (countTach f s) = reserve s := reserve_congr rfl fun g => by rw [fan]; exact ⟨rfl, rfl⟩
  refine ⟨fun g => ?_, curves, ?_, fun z => ?_, fun z => ?_⟩
  · rw [fan]
    exact fans g
  · rw [reserved]
    exact handed
  · rw [failure]
    exact failed z
  · rw [holdOf_congr (failure z) rfl rfl]
    exact holds z

/-! ### The fan table and the zone settings written (R105, R119) -/

/-- A FAILED fan spreads to its zone and raises the enabled fans there, and every zone has its field again. -/
theorem spreadFailure_coolingBut {s : State} (fans : ∀ f : FanIx, FanMatches (s.fan f) (s.fanCfg f))
    (curves : ∀ z : ZoneIx, ascending s.cool.activeCurves z = true) : CoolingBut (spreadFailure s) := by
  have fan : ∀ f, (spreadFailure s).fan f = s.fan f ∨
      ((s.fanCfg f).enabled = true ∧ (spreadFailure s).fan f = { s.fan f with target := 255, applied := 255 }) := fun f => by
    simp only [spreadFailure, State.fan_mapFans, State.fan_mapZones]
    split
    · next h => exact .inr ⟨(Bool.and_eq_true _ _ ▸ h).1, rfl⟩
    · exact .inl rfl
  have failure : ∀ z, zoneHasFailure (spreadFailure s) z = zoneHasFailure s z := zoneHasFailure_congr rfl fun f => by
    rcases fan f with h | ⟨-, h⟩ <;> rw [h]
  have cfg : ∀ f, (spreadFailure s).fanCfg f = s.fanCfg f := fun _ => rfl
  refine ⟨fun f => ?_, curves, fun z => ?_⟩
  · rw [cfg]
    rcases fan f with h | ⟨enabled, h⟩ <;> rw [h]
    · exact fans f
    · exact raised_fanMatches (fans f) enabled
  · rw [failure]
    simp only [spreadFailure, State.zone_mapFans, State.zone_mapZones]
    split
    · next h => exact (Bool.and_eq_true _ _ ▸ h).1.symm
    · rfl

theorem writeFan_cools (f : FanIx) {c : FanCfg} (h : FanCfgInRange c) (s : State) : Cools s (writeFan f c s) := by
  rintro ⟨fans, curves, -⟩
  obtain ⟨-, min, -⟩ := h
  rw [writeFan_eq]
  refine handOver_coolingMatches (spreadFailure_coolingBut (fun g => ?_) curves)
  by_cases hg : g = f
  · subst hg
    have cfg : (withFan g c s).fanCfg g = c := by simp [withFan, State.fanCfg, Vector.get_eq_getElem]
    have fan : (withFan g c s).fan g = fanRewritten (s.fanCfg g) c (s.zone c.zone) (s.fan g) := by
      simp [withFan, State.fan, Vector.get_eq_getElem]
    rw [cfg, fan]
    exact fanRewritten_fanMatches (fans g) min _
  · have hv : f.val ≠ g.val := fun e => hg (Fin.ext e.symm)
    have cfg : (withFan f c s).fanCfg g = s.fanCfg g := by simp [withFan, State.fanCfg, Vector.get_eq_getElem, hv]
    have fan : (withFan f c s).fan g = s.fan g := by simp [withFan, State.fan, Vector.get_eq_getElem, hv]
    rw [cfg, fan]
    exact fans g

theorem writeZoneCfg_cools (z : ZoneIx) (c : ZoneCfg) (s : State) : Cools s (recomputeHolds (withZone z c s)) := by
  rintro ⟨fans, curves, handed, failed, -⟩
  have failure : ∀ y, zoneHasFailure (withZone z c s) y = zoneHasFailure s y := zoneHasFailure_congr rfl fun _ => rfl
  have but : CoolingBut (withZone z c s) := ⟨fans, curves, fun y => by rw [failure]; exact failed y⟩
  exact recomputeHolds_coolingMatches but (handed.trans (reserve_congr rfl fun _ => ⟨rfl, rfl⟩))

/-! ### The curves (R111) -/

theorem ascending_iff (t : Vector Point 24) (z : ZoneIx) :
    ascending t z = true ↔ ∀ i < 5, (curvePoint t z i).temp < (curvePoint t z (i + 1)).temp := by
  simp [ascending]

theorem ascending_congr {t u : Vector Point 24} {z : ZoneIx} (h : ∀ i < 6, curvePoint t z i = curvePoint u z i) :
    ascending t z = ascending u z := by
  rw [Bool.eq_iff_iff, ascending_iff, ascending_iff]
  exact forall₂_congr fun i hi => by rw [h i (by omega), h (i + 1) (by omega)]

/-- CURVE ACTIVATE copies the points of its zone and leaves those of the others (R111). -/
theorem curvePoint_activateCurve (s : State) (y z : ZoneIx) {i : Nat} (hi : i < 6) :
    curvePoint (activateCurve z s).cool.activeCurves y i =
      if y = z then curvePoint s.cool.pendingCurves y i else curvePoint s.cool.activeCurves y i := by
  have entry : (y.val * 6 + i) % 24 / 6 = y.val := by omega
  simp only [activateCurve, curvePoint, Vector.get_eq_getElem, Vector.getElem_ofFn, Fin.ofNat, entry, Fin.ext_iff]

/-- Active curves of ascending temperatures may be put in place at any time: no record depends on them. -/
theorem activeCurves_cools {ps : Vector Point 24} (h : ∀ z, ascending ps z = true) (s : State) :
    Cools s { s with cool := { s.cool with activeCurves := ps } } := by
  rintro ⟨fans, -, handed, failed, holds⟩
  exact ⟨fans, h, handed, failed, holds⟩

theorem activateCurve_cools {z : ZoneIx} {s : State} (h : ascending s.cool.pendingCurves z = true) :
    Cools s (activateCurve z s) := by
  intro hs
  obtain ⟨-, curves, -⟩ := id hs
  refine activeCurves_cools (ps := (activateCurve z s).cool.activeCurves) (fun y => ?_) s hs
  by_cases hy : y = z
  · subst hy
    rw [ascending_congr fun i hi => (curvePoint_activateCurve s y y hi).trans (if_pos rfl)]
    exact h
  · rw [ascending_congr fun i hi => (curvePoint_activateCurve s y z hi).trans (if_neg hy)]
    exact curves y

/-! ### The resets (R127, R128) -/

theorem fullReset_coolingMatches (cause : ResetCause) (s : State) : CoolingMatches (fullReset cause s) :=
  Cools.aside (s := State.reset) rfl rfl reset_coolingMatches

theorem defaultCurves_ascending (z : ZoneIx) : ascending defaultCurves z = true := by
  revert z
  decide

/-- The restored fans agree with the default table, whatever the records were. -/
theorem restoredFan_fanMatches {s : State} {f : FanIx} (h : FanMatches (s.fan f) (s.fanCfg f)) :
    FanMatches (restoredFan s f) (defaultFanEntry f) := by
  have rewritten : FanMatches (rewrittenFan s f) (defaultFanEntry f) :=
    fanRewritten_fanMatches h (by simp [defaultFanEntry]) _
  unfold restoredFan
  split
  · next low => exact raised_fanMatches rewritten (by simp [defaultFanEntry, low.1])
  · exact rewritten

theorem restoreAll_cools (s : State) : Cools s (restoreAll s) := by
  rintro ⟨fans, -⟩
  have cool := defaultedJudged_cool s
  have cfg : (defaultedJudged s).cool.fanCfg = defaultFanCfg := by rw [cool]
  have but : CoolingBut (defaultedJudged s) := by
    refine ⟨fun f => ?_, fun z => ?_, fun z => ?_⟩
    · rw [defaultedJudged_fan, fanCfg_default cfg]
      exact restoredFan_fanMatches (fans f)
    · have active : (defaultedJudged s).cool.activeCurves = defaultCurves := by rw [cool]
      rw [active]
      exact defaultCurves_ascending z
    · rw [zoneHasFailure_default cfg, defaultedJudged_fan, restoredFan_state]
      simp only [State.zone, cool, Vector.get_eq_getElem, Vector.getElem_ofFn, brokenZone]
  have mapped : ∀ t, Cools t (resolveMap t) := fun t => by unfold resolveMap; exact .aside rfl rfl
  rw [restoreAll_eq]
  exact mapped _ (handOver_coolingMatches but)

end Sys2Proof.Machine
end

section
/-! PROOFS. The operations of the other blocks leave the Cooling Controller aside: the bays, the scheduler, the sensors, the
tables and the loop (R111, R115, R118, R121, R123, R124). -/

namespace Sys2Proof.Machine

open Sys2Proof.Safety

/-! ### Working records and events -/

theorem attempt_cools (s : State) : Cools s (attempt s) := by
  rw [(attempt_onlyAdmits s).rest]
  exact .aside rfl rfl

/-- An event keeps the agreement where its changes do. -/
theorem event_cools {f : Work → Work} {s : State} (h : Cools (Work.start s).st (f (Work.start s)).st) :
    Cools s (event f s) := by
  have entered : ∀ w : Work, Cools w.st w.entered := fun _ => .aside rfl rfl
  exact fun hs => event_kept attempt_cools (entered _ (h hs))

theorem BaysOnly.cools {w w' : Work} (h : BaysOnly w w') : Cools w.st w'.st := by
  rw [h.rest]
  exact .aside rfl rfl

theorem Reseats.cools {b : BayIx} {w w' : Work} (h : Reseats b w w') : Cools w.st w'.st := h.edits.frame.cools

theorem foldl_cools_work {α : Type} {k : Work → α → Work} (h : ∀ w x, Cools w.st (k w x).st) (l : List α) (w : Work) :
    Cools w.st (l.foldl k w).st := by
  induction l generalizing w with
  | nil => exact .refl _
  | cons x l ih => exact (h w x).trans (ih _)

/-- An event that is taken where it is due. -/
theorem dueEvent_cools {due : Bool} {f : Work → Work} {s : State}
    (h : due = true → Cools (Work.start s).st (f (Work.start s)).st) : Cools s (if due = true then event f s else s) := by
  split
  · exact event_cools (h ‹_›)
  · exact .refl s

/-! ### The events of one bay (chapter 1) -/

section Bay

variable (b : BayIx) (s : State)

theorem takePresenceActive_cools : Cools s (takePresenceActive b s) := dueEvent_cools fun _ => presenceActive_reseats.cools

theorem takePresenceLoss_cools : Cools s (takePresenceLoss b s) := dueEvent_cools fun _ => presenceLoss_reseats.cools

theorem takePowerGoodSeen_cools : Cools s (takePowerGoodSeen b s) :=
  dueEvent_cools fun h => (powerGoodSeen_reseats (by simp [powerGoodSeenDue_surge h])).cools

theorem takePowerGoodLost_cools : Cools s (takePowerGoodLost b s) :=
  dueEvent_cools fun _ => (Edits.enterFault (Work.start s) _).frame.cools

theorem takeSwitchFault_cools : Cools s (takeSwitchFault b s) :=
  dueEvent_cools fun _ => (Edits.enterFault (Work.start s) _).frame.cools

theorem takeSurgeDeadline_cools : Cools s (takeSurgeDeadline b s) :=
  dueEvent_cools fun h => (surgeDeadline_reseats (by simp [surgeDeadlineDue_surge h])).cools

theorem takePgDeadline_cools : Cools s (takePgDeadline b s) :=
  dueEvent_cools fun h => (powerGoodDeadline_reseats (by simp [pgDeadlineDue_surge h])).cools

theorem takeResetHold_cools : Cools s (takeResetHold b s) :=
  dueEvent_cools fun _ => (resetHoldExpiry_reseats (w := Work.start s)).cools

theorem takeEdge_cools : Cools s (takeEdge b s) := by
  unfold takeEdge
  split
  · exact .aside rfl rfl
  · exact .refl s

theorem takeStretch_cools : Cools s (takeStretch b s) := by
  unfold takeStretch
  split
  · exact .aside rfl rfl
  · exact .refl s

theorem turnStale_cools : Cools s (turnStale b s) := by
  unfold turnStale
  split <;> exact .aside rfl rfl

theorem takeStale_cools : Cools s (takeStale b s) := dueEvent_cools fun _ => turnStale_cools b s

end Bay

theorem takeExpiries_cools (s : State) : Cools s (takeExpiries s) :=
  event_cools (f := sweep expiryHere allBays) (sweep_baysOnly expiryHere_edits _ _).cools

theorem takeReport_cools (n : Nat) (v : BitVec 16) (w : Work) : Cools w.st (takeReport n v w).st := by
  unfold takeReport
  split
  · exact .refl _
  · split
    · split
      · next h =>
        simp only [Bool.and_eq_true, decide_eq_true_eq] at h
        exact (storeReport_reseats _ h.2).cools
      · exact .refl _
    · exact .refl _

/-- One request byte of a frame (R161). -/
theorem applyRequest_cools (w : Work) (q : BayIx × Byte) : Cools w.st (applyRequest w q).st := by
  unfold applyRequest
  split
  · have coded : Cools w.st (w.map fun s => s.setBayLights q.1 { s.bayLights q.1 with loopCode := requestCode q.2 }).st :=
      .aside rfl rfl
    refine coded.trans ?_
    generalize w.map _ = w
    dsimp only
    split
    · exact .refl _
    · have noted : Edits q.1 w (w.setBay q.1 { w.st.bay q.1 with loopIntent := requestIntent q.2 }) := .setBay ..
      exact (noted.trans (.evaluate _)).frame.cools
  · exact .refl _

/-! ### The stagger boundary, the supply monitor and the sensors (chapters 2 to 4) -/

theorem takeBoundary_cools (s : State) : Cools s (takeBoundary s) :=
  event_cools (f := fun w => (w.map fun s => { s with sched := s.sched.boundary s.time.now }).owe) (.aside rfl rfl)

theorem takeConversion_cools (s : State) : Cools s (takeConversion s) := by
  refine event_cools (.aside ?_ ?_)
  · show (endSlot s).cool = s.cool
    rw [endSlot_eq]
  · exact (congrArg _ (endSlot_acct s)).trans (conversionLatched_fanReserve s)

theorem takeCooling_cools (s : State) : Cools s (takeCooling s) := event_cools (coolingStages_cools s)

theorem rejudgeAll_cools (s : State) : Cools s (rejudgeAll s) := by
  rw [rejudgeAll_eq]
  exact .aside rfl rfl

/-! ### Table writes (R178) -/

theorem resolveMap_cools (s : State) : Cools s (resolveMap s) := by
  unfold resolveMap
  exact .aside rfl rfl

theorem writeBayCfg_cools (b : BayIx) (c : BayCfg) (w : Work) : Cools w.st (writeBayCfg b c w).st := by
  unfold writeBayCfg
  extract_lets old written mapped owed acted
  have stored : Cools w.st mapped.st := by
    have h : Cools w.st written.st := .aside rfl rfl
    unfold mapped
    split
    · exact h.trans (resolveMap_cools _)
    · exact h
  refine stored.trans ?_
  split
  · have zone : Edits b mapped owed := by
      unfold owed
      split
      · exact .owe _
      · exact .refl b _
    have policy : Edits b owed acted := by
      unfold acted
      split
      · exact .evaluate _
      · exact .refl b _
    refine (zone.trans policy).frame.cools.trans ?_
    split
    · exact (Edits.reresolve (b := b) _).frame.cools
    · exact .refl _
  · exact .refl _

/-- A put that stores keeps the agreement. -/
def Put.Cools (p : Put) : Prop := ∀ clamped f, p = .store clamped f → ∀ w, Machine.Cools w.st (f w).st

theorem Put.cools_refuse (r : Result) : (Put.refuse r).Cools := fun _ _ h => nomatch h

theorem Put.cools_store {f : Work → Work} (h : ∀ w, Machine.Cools w.st (f w).st) (clamped : Bool) :
    (Put.store clamped f).Cools := by
  rintro _ _ ⟨⟩
  exact h

theorem Put.cools_of {α : Type} {f : α → Work → Work} {x : Option (α × Bool)}
    (h : ∀ v m, x = some (v, m) → ∀ w, Machine.Cools w.st (f v w).st) : (Put.of x f).Cools := by
  unfold Put.of
  split
  · exact Put.cools_store (h _ _ rfl) _
  · exact Put.cools_refuse _

theorem withCooling_cools (p u d l : Nat) (s : State) : Cools s (withCooling p u d l s) := by
  unfold withCooling
  exact .same rfl rfl rfl rfl rfl rfl

theorem writeCooling_cools (p u d l : Nat) (w : Work) : Cools w.st (writeCooling p u d l w).st := by
  have written : Cools w.st (w.map (withCooling p u d l)).st := withCooling_cools p u d l w.st
  unfold writeCooling
  dsimp only
  split
  · rw [Work.st_map]
    exact written.trans (rejudgeAll_cools _)
  · exact written

theorem writePower_cools (c g m : Nat) (w : Work) : Cools w.st (writePower c g m w).st := by
  unfold writePower
  dsimp only
  split <;> exact .aside rfl rfl

theorem putPart_cools (i : Nat) (e : List Byte) : (putPart i e).Cools := by
  unfold putPart
  split
  · exact Put.cools_store (writePower_cools _ _ _) _
  · exact Put.cools_store (f := writePace _) (fun _ => .aside rfl rfl) _
  · exact Put.cools_store (f := writeTiming _ _) (fun _ => .aside rfl rfl) _
  · split
    · exact Put.cools_refuse _
    · exact Put.cools_store (f := writeLoop _ _) (fun _ => .aside rfl rfl) _
  · exact Put.cools_store (writeCooling_cools _ _ _ _) _
  · exact Put.cools_store (f := writeBrightness _) (fun _ => .aside rfl rfl) _

/-- A pending point waits for its activation (R109). -/
theorem writePoint_cools (i : Fin 24) (p : Point) (w : Work) : Cools w.st (writePoint i p w).st := by
  unfold writePoint
  exact .same rfl rfl rfl rfl rfl rfl

theorem putEntry_cools (table i : Nat) (e : List Byte) (s : State) : (putEntry table i e s).Cools := by
  unfold putEntry
  split
  · unfold putBayCfg
    split
    · exact Put.cools_refuse _
    · split
      · exact Put.cools_refuse _
      · exact Put.cools_store (writeBayCfg_cools _ _) _
  · exact Put.cools_of fun _ _ _ _ => .aside rfl rfl
  · exact Put.cools_of fun _ _ _ _ => .aside rfl rfl
  · exact Put.cools_of fun _ _ _ _ => .aside rfl rfl
  · exact Put.cools_of fun _ _ _ _ => .aside rfl rfl
  · exact Put.cools_store (writePoint_cools _ _) _
  · exact Put.cools_store (fun w => writeZoneCfg_cools _ _ w.st) _
  · refine Put.cools_of fun c _ _ w => ?_
    rw [Work.st_map, writeSensor_scan]
    exact .aside rfl rfl
  · exact Put.cools_of fun c _ h w => writeFan_cools _ (decodeFan_inRange h) w.st
  · exact putPart_cools i e
  · exact Put.cools_refuse _

/-! ### The resets of TABLES and LOOP scope (R183, R184) -/

theorem resetTables_cools (s : State) : Cools s (resetTables s) := by
  have values : Cools (Work.start s).st ((Work.start s).map restoreAll).st := restoreAll_cools s
  have bays : ∀ w, Cools w.st (restoreBays s w).st := fun w => by
    rw [restoreBays_eq]
    exact ((sweep_baysOnly (restoreOverride_edits s) _ _).trans (sweep_baysOnly (restorePolicy_edits s) _ _)).cools
  refine event_cools ?_
  rw [Work.st_owe]
  exact values.trans (bays _)

theorem resetLoop_cools (s : State) : Cools s (resetLoop s) :=
  Cools.trans (t := { s with loop := { s.loop with position := none, reply := none, replyPlaced := false }, window := none })
    (.aside rfl rfl) (resolveMap_cools _)

end Sys2Proof.Machine
end

section
/-! PROOFS. The messages, the loop, the tick and the commands keep the fans, the active curves, the handed reserve, the fan-failed
fields and the holds in agreement (R111, R115, R118, R121, R123, R124). -/

namespace Sys2Proof.Machine

open Sys2Proof.Safety

/-! ### The messages (chapter 8) -/

theorem cools_of_eq {s t : State} (h : t = s) : Cools s t := h ▸ .refl t

theorem cools_accept {s t : State} (h : Cools s t) : Cools s (accept t).st := h

theorem onNamedBay_cools {s : State} {k : BayIx → Answer} (h : ∀ b, Cools s (k b).st) (bay : Byte) :
    Cools s (onNamedBay bay s k).st := by
  unfold onNamedBay
  split
  · exact h _
  · exact .refl s

theorem onWindow_cools {k : State → BayIx → State} (h : ∀ s b, Cools s (k s b)) (start stop : Byte) (s : State) :
    Cools s (onWindow start stop s k).st := by
  unfold onWindow
  split
  · exact foldl_related Cools.refl (fun _ _ _ => Cools.trans) h _ s
  · exact .refl s

/-- A bay message that is accepted with the event of one bay, or refused. -/
theorem acceptEvent_cools {p : Prop} [Decidable p] {s : State} {f : Work → Work} (r : Result)
    (h : p → Cools (Work.start s).st (f (Work.start s)).st) :
    Cools s (if p then accept (event f s) else refuse r s).st := by
  split
  · exact event_cools (h ‹_›)
  · exact .refl s

theorem msgIntent_cools (i : MgmtIntent) (bay : Byte) (s : State) : Cools s (msgIntent i bay s).st := by
  refine onNamedBay_cools (fun b => ?_) bay
  rw [← ite_not]
  exact acceptEvent_cools _ fun _ => (setIntent_reseats i).cools

theorem msgExpedite_cools (bay : Byte) (s : State) : Cools s (msgExpedite bay s).st := by
  refine onNamedBay_cools (fun b => ?_) bay
  rw [← ite_not]
  exact acceptEvent_cools _ fun _ => (setExpedite_reseats.trans (setIntent_reseats .on)).cools

theorem msgCycle_cools (bay : Byte) (s : State) : Cools s (msgCycle bay s).st :=
  onNamedBay_cools (fun _ => acceptEvent_cools _ fun h => (cycleBay_reseats (not_queued_of_powered h)).cools) bay

theorem msgClear_cools (bay : Byte) (s : State) : Cools s (msgClear bay s).st :=
  onNamedBay_cools (fun _ => acceptEvent_cools _ fun h => (clearFault_reseats h).cools) bay

theorem msgBayPower_cools (bay action : Byte) (s : State) : Cools s (msgBayPower bay action s).st := by
  unfold msgBayPower
  split
  · exact msgIntent_cools _ _ s
  · exact msgExpedite_cools _ s
  · exact msgIntent_cools _ _ s
  · exact msgIntent_cools _ _ s
  · exact msgCycle_cools _ s
  · exact msgClear_cools _ s
  · exact .refl s

theorem msgBayReset_cools (bay : Byte) (s : State) : Cools s (msgBayReset bay s).st := by
  refine onNamedBay_cools (fun b => ?_) bay
  split
  · exact .aside rfl rfl
  · exact .refl s

theorem msgBayClass_cools (bay cls : Byte) (s : State) : Cools s (msgBayClass bay cls s).st := by
  refine onNamedBay_cools (fun b => ?_) bay
  split
  · exact .refl s
  · next o _ =>
    have written : Cools (Work.start s).st
        ((Work.start s).map fun s => s.setBayCfg b { s.bayCfg b with override := o }).st := .aside rfl rfl
    have classed : Cools s (event (classBay b o) s) :=
      event_cools (f := classBay b o) (written.trans (Reseats.reresolve (b := b)).cools)
    split
    · exact .refl s
    · exact .refl s
    · exact .refl s
    all_goals exact classed

theorem msgAttentionClear_cools (start stop kinds : Byte) (s : State) :
    Cools s (msgAttentionClear start stop kinds s).st := by
  unfold msgAttentionClear
  split
  · exact .refl s
  · refine onWindow_cools (fun t b => ?_) start stop s
    exact .aside rfl rfl

theorem msgAttentionMask_cools (start stop setMask clearMask : Byte) (s : State) :
    Cools s (msgAttentionMask start stop setMask clearMask s).st := by
  unfold msgAttentionMask
  split
  · refine onWindow_cools (fun t b => ?_) start stop s
    exact .aside rfl rfl
  · exact .refl s

theorem msgHold_cools (start stop : Byte) (h : Option (Fin 32)) (s : State) : Cools s (msgHold start stop h s).st := by
  refine onWindow_cools (fun t b => ?_) start stop s
  exact .aside rfl rfl

theorem msgIndicatorHold_cools (start stop code : Byte) (s : State) :
    Cools s (msgIndicatorHold start stop code s).st := by
  unfold msgIndicatorHold
  split
  · exact msgHold_cools start stop _ s
  · split
    · exact msgHold_cools start stop _ s
    · exact .refl s

theorem msgBlinkSync_cools (s : State) : Cools s (msgBlinkSync s).st := .aside rfl rfl

theorem msgDriveTemperature_cools (first : Byte) (v0 v1 v2 : BitVec 16) (s : State) :
    Cools s (msgDriveTemperature first v0 v1 v2 s).st :=
  onNamedBay_cools (fun _ => event_cools
    (f := fun w => takeReport (first.toNat + 2) v2 (takeReport (first.toNat + 1) v1 (takeReport first.toNat v0 w)))
    (((takeReport_cools _ v0 _).trans (takeReport_cools _ v1 _)).trans (takeReport_cools _ v2 _))) first

theorem msgTableWindow_cools (table start stop : Byte) (s : State) : Cools s (msgTableWindow table start stop s).st := by
  unfold msgTableWindow
  split
  · exact .refl s
  · exact .aside rfl rfl

theorem msgTablePut_cools (index : Byte) (entry : List Byte) (s : State) : Cools s (msgTablePut index entry s).st := by
  unfold msgTablePut
  split
  · exact .refl s
  · split
    · exact .refl s
    · split
      · exact .refl s
      · next clamped f hput =>
        have put : Cools s (event f s) := event_cools (putEntry_cools _ _ entry s clamped f hput _)
        exact put.trans (.aside rfl rfl)

theorem msgTableGet_cools (index : Byte) (s : State) : Cools s (msgTableGet index s).st := by
  unfold msgTableGet
  split
  · exact .refl s
  · split
    · exact .refl s
    · exact .aside rfl rfl

theorem msgCurveActivate_cools (zone : Byte) (s : State) : Cools s (msgCurveActivate zone s).st := by
  unfold msgCurveActivate
  split
  · exact .refl s
  · split
    · exact activateCurve_cools ‹_›
    · exact .refl s

theorem msgIdentify_cools (s : State) : Cools s (msgIdentify s).st := .aside rfl rfl

theorem msgResetLoop_cools (s : State) : Cools s (msgResetLoop s).st := cools_accept (resetLoop_cools s)

theorem msgResetTables_cools (s : State) : Cools s (msgResetTables s).st :=
  cools_accept (resetTables_cools s)

theorem fullReset_cools (cause : ResetCause) (s : State) : Cools s (fullReset cause s) :=
  fun _ => fullReset_coolingMatches cause s

theorem requestOf_cools (kind : Byte) (args : List Byte) (s : State) : Cools s ((requestOf kind args).2 s).st := by
  unfold requestOf
  dsimp only
  split
  · exact msgIdentify_cools s
  · exact cools_of_eq (msgBayRead_st s _)
  · exact msgBayPower_cools _ _ s
  · exact msgBayReset_cools _ s
  · exact msgBayClass_cools _ _ s
  · exact msgAttentionClear_cools _ _ _ s
  · exact msgAttentionMask_cools _ _ _ _ s
  · exact msgIndicatorHold_cools _ _ _ s
  · exact msgBlinkSync_cools s
  · exact msgDriveTemperature_cools _ _ _ _ s
  · exact msgTableWindow_cools _ _ _ s
  · exact msgTablePut_cools _ _ s
  · exact msgTableGet_cools _ s
  · exact msgCurveActivate_cools _ s
  · exact cools_of_eq (msgPowerRead_st s _)
  · exact cools_of_eq (msgQueueRead_st s _)
  · exact cools_of_eq (msgFanRead_st s _)
  · exact cools_of_eq (msgSensorRead_st s _)
  · exact cools_of_eq (msgZoneRead_st s _)
  · unfold partReset
    split
    · exact msgResetLoop_cools s
    · exact msgResetTables_cools s
    · exact fullReset_cools .message s
    · exact .refl s
  · exact .refl s

theorem Cools.loop {s : State} (x : LoopEngine) : Cools s { s with loop := x } := .aside rfl rfl

theorem deliver_cools {dst tag kind : Byte} {acts : Bool} {run : State → Answer} (h : ∀ s, Cools s (run s).st)
    (s : State) : Cools s (deliver dst tag kind acts run s) :=
  deliver_kept (P := Cools s) (fun _ ht => ht.trans (.loop _)) (fun _ _ ht => ht.trans (.loop _))
    (fun t ht => ht.trans (h t)) (.refl s)

/-! ### The frames and the symbols (chapter 7) -/

/-- t is s but for the Loop Engine. -/
def OnlyLoop (s t : State) : Prop := t = { s with loop := t.loop }

theorem OnlyLoop.trans {s t u : State} (h : OnlyLoop s t) (k : OnlyLoop t u) : OnlyLoop s u := by
  unfold OnlyLoop at *
  rw [k, h]

theorem OnlyLoop.cools {s t : State} (h : OnlyLoop s t) : Cools s t := by
  rw [h]
  exact .loop _

theorem captureByte_onlyLoop (n : Nat) (b : Byte) (s : State) : OnlyLoop s (captureByte n b s) := by
  have placed : OnlyLoop s (placeReply b s) := by
    unfold placeReply
    split
    · split <;> rfl
    · rfl
  have opened : OnlyLoop s (openCell b s) := by
    unfold openCell
    split
    · split <;> rfl
    · rfl
  have fixed : OnlyLoop s (if n = 19 then fixMap s else s) := by split <;> rfl
  have request : ∀ slot t, OnlyLoop t (captureRequest slot b t) := fun slot t => by
    unfold captureRequest
    split <;> rfl
  unfold captureByte
  dsimp only
  iterate 3
    split
    · rfl
  split
  · exact placed
  split
  · rfl
  split
  · split
    · exact fixed.trans (request _ _)
    · exact fixed
  split
  · exact opened
  split
  · rfl
  split <;> rfl

theorem receive_onlyLoop (x : LoopSym) (s : State) : OnlyLoop s (receive x s).2 := by
  have counted : ∀ b, OnlyLoop s (frameByte b s).2 := fun b =>
    (captureByte_onlyLoop s.loop.frame.count b s).trans rfl
  unfold receive
  split
  · split <;> rfl
  · split
    · split
      · rfl
      · exact counted _
    · split <;> rfl
    all_goals rfl
  · split <;> rfl

theorem latchPosition_cools (flags hop : Byte) (s : State) : Cools s (latchPosition flags hop s) := by
  unfold latchPosition
  split
  · extract_lets p
    split
    · exact .refl s
    · exact (Cools.loop _).trans (resolveMap_cools _)
  · exact .refl s

theorem placedEnd_cools (s : State) : Cools s (placedEnd s) := by
  have released : Cools s (releaseReply s) := by
    unfold releaseReply
    split
    · exact .loop _
    · exact .refl s
  have requested : ∀ t, Cools t (applyRequests t) := fun t =>
    event_cools (f := fun w => t.loop.frame.requests.foldl applyRequest w) (foldl_cools_work applyRequest_cools _ _)
  unfold placedEnd executeCell
  refine (released.trans (requested _)).trans ?_
  split
  · exact deliver_cools (requestOf_cools _ _) _
  · exact .refl _

theorem goodEnd_cools (s : State) : Cools s (goodEnd s) := by
  have latched : ∀ flags hop t, Cools t (latchPosition flags hop (restartTimer t)) := fun flags hop t =>
    (Cools.loop _).trans (latchPosition_cools flags hop (restartTimer t))
  have taken : Cools s { s with loop := { s.loop with frameEnd := none } } := .loop _
  unfold goodEnd
  dsimp only
  refine taken.trans ?_
  split
  · split
    · exact placedEnd_cools _
    · exact (placedEnd_cools _).trans (latched _ _ _)
  · exact latched _ _ _

theorem badEnd_cools (s : State) : Cools s (badEnd s) := .loop _

theorem takeFrameEnd_cools (s : State) : Cools s (takeFrameEnd s) := by
  unfold takeFrameEnd
  split
  · exact goodEnd_cools s
  · exact badEnd_cools s
  · exact .refl s

theorem takeSymbol_cools (x : LoopSym) (s : State) : Cools s (takeSymbol x s) :=
  ((takeFrameEnd_cools s).trans (receive_onlyLoop x _).cools).trans (.loop _)

theorem breakLoop_cools (s : State) : Cools s (breakLoop s) := by
  unfold breakLoop
  dsimp only
  split <;> exact .loop _

/-! ### The tick (R1) -/

theorem takeLoopTimer_cools (s : State) : Cools s (takeLoopTimer s) := .loop _

theorem resolveLights_cools (s : State) : Cools s (resolveLights s) := .aside rfl rfl

theorem completeTick_cools (s : State) : Cools s (completeTick s) := by
  refine completeTick_kept (P := Cools s) (fun t ht => ht.trans (takeFrameEnd_cools t)) ?_ ?_ (.refl s)
  · intro k hk t b ht _
    refine ht.trans ?_
    simp only [List.mem_cons, List.not_mem_nil, or_false] at hk
    rcases hk with rfl | rfl | rfl | rfl | rfl | rfl | rfl | rfl | rfl | rfl | rfl
    · exact takePresenceActive_cools b t
    · exact takePresenceLoss_cools b t
    · exact takePowerGoodSeen_cools b t
    · exact takePowerGoodLost_cools b t
    · exact takeSwitchFault_cools b t
    · exact takeStretch_cools b t
    · exact takeEdge_cools b t
    · exact takeSurgeDeadline_cools b t
    · exact takePgDeadline_cools b t
    · exact takeResetHold_cools b t
    · exact takeStale_cools b t
  · intro k hk t ht
    refine ht.trans ?_
    simp only [List.mem_cons, List.not_mem_nil, or_false] at hk
    rcases hk with rfl | rfl | rfl | rfl | rfl | rfl
    · exact takeExpiries_cools t
    · exact takeBoundary_cools t
    · exact takeCooling_cools t
    · exact takeConversion_cools t
    · exact takeLoopTimer_cools t
    · exact resolveLights_cools t

/-- The scan reads the applied duties and counts; it changes nothing of the Cooling Controller. -/
theorem tick_cools (pins : Pins) (l : LightsOrder) (s : State) : Cools s (tick pins l s) := by
  have counted : ∀ t, Cools t (countTick pins t) := fun _ => .aside rfl rfl
  have lit : ∀ l t, Cools t (tickLights l t) := fun l t => by cases l <;> exact .aside rfl rfl
  unfold tick
  exact (completeTick_cools s).trans ((counted _).trans (lit _ _))

/-! ### The commands -/

theorem execResetTriggerEnd_cools {trigger : ResetTrigger} {s t : State} (h : execResetTriggerEnd trigger s = .next t) :
    Cools s t := by
  have ended : ∀ u : State, Cools s u → ∀ c,
      (if u.inReset = true then .next u else .next (fullReset c u) : Out) = .next t → Cools s t := by
    intro u hu c h
    split at h <;> cases h
    · exact hu
    · exact hu.trans (fullReset_cools c u)
  unfold execResetTriggerEnd at h
  split at h
  · cases trigger with
    | powerOn => exact ended { s with rst := { s.rst with powerOn := false } } (.aside rfl rfl) _ h
    | pin => exact ended { s with rst := { s.rst with pin := false } } (.aside rfl rfl) _ h
  · cases h
    exact .refl s

section Rows

variable {s t : State}

/-- A message row (R162; log 12). -/
theorem messageRow_cools {dst tag kind : Byte} {acts : Bool} {run : State → Answer} (h : ∀ s, Cools s (run s).st)
    (ht : live s (deliver dst tag kind acts run) = .next t) : Cools s t :=
  live_kept (P := Cools s) (fun u hu => hu.trans (deliver_cools h u)) (.refl s) ht

/-- A command of the part as a whole, taken where it is due. -/
theorem liveRow_cools {due : State → Prop} [DecidablePred due] {k : State → State} (hk : ∀ s, Cools s (k s))
    (h : live s (fun s => if due s then k s else s) = .next t) : Cools s t := by
  refine live_kept (P := Cools s) (fun u hu => ?_) (.refl s) h
  split
  · exact hu.trans (hk u)
  · exact hu

/-- A row of a bay line. -/
theorem bayRow_cools {k : BayIx → State → State} (hk : ∀ b s, Cools s (k b s)) {n : Nat} (h : onBay n s k = .next t) :
    Cools s t :=
  onBay_kept (P := Cools s) (fun b u hu _ => hu.trans (hk b u)) (.refl s) h

/-- The row of an expiry takes the expiries of the tick where its own is due. -/
theorem expiryRow_cools {due : State → BayIx → Bool} {n : Nat}
    (h : onBay n s (fun b s => if due s b = true then takeExpiries s else s) = .next t) : Cools s t := by
  refine bayRow_cools (fun b u => ?_) h
  split
  · exact takeExpiries_cools u
  · exact .refl u

/-- Every command keeps the agreement, row by row. -/
theorem exec_cools {c : Instr} (h : exec c s = .next t) : Cools s t := by
  cases c with
  | timebaseTick pins l =>
    change execTimebaseTick pins l s = _ at h
    unfold execTimebaseTick at h
    split at h <;> rw [← Host.Outcome.next.inj h]
    · exact .aside rfl rfl
    · exact tick_cools pins l s
  | presenceActive => exact bayRow_cools takePresenceActive_cools h
  | presenceLoss => exact bayRow_cools takePresenceLoss_cools h
  | powerGoodSeen => exact bayRow_cools takePowerGoodSeen_cools h
  | powerGoodLost => exact bayRow_cools takePowerGoodLost_cools h
  | switchFault => exact bayRow_cools takeSwitchFault_cools h
  | driveActivityEdge => exact bayRow_cools takeEdge_cools h
  | tachPulse =>
    exact onFan_kept (P := Cools s) (k := countTach) (fun f u hu => hu.trans (countTach_cools f u)) (.refl s) h
  | debounceExpiry => exact expiryRow_cools h
  | drainExpiry => exact expiryRow_cools h
  | surgeDeadline => exact bayRow_cools takeSurgeDeadline_cools h
  | powerGoodDeadline => exact bayRow_cools takePgDeadline_cools h
  | resetHoldExpiry => exact bayRow_cools takeResetHold_cools h
  | staggerBoundary => exact liveRow_cools (due := fun s => boundaryDue s = true) takeBoundary_cools h
  | coolingUpdate => exact liveRow_cools (due := fun s => coolingDue s = true) takeCooling_cools h
  | conversionEnd => exact liveRow_cools (due := fun s => s.scan.slotDue = true) takeConversion_cools h
  | temperatureStale => exact bayRow_cools takeStale_cools h
  | loopTimerExpiry => exact liveRow_cools (due := fun s => loopTimerDue s = true) takeLoopTimer_cools h
  | activityStretchExpiry => exact bayRow_cools takeStretch_cools h
  | loopSymbol bits =>
    change execLoopSymbol bits s = _ at h
    unfold execLoopSymbol at h
    split at h
    · cases h
      exact .refl s
    · split at h <;> cases h
      · exact .loop _
      · exact takeSymbol_cools _ s
  | goodFrameEnd => exact liveRow_cools (due := fun s => s.loop.frameEnd = some true) goodEnd_cools h
  | badCheckFrameEnd => exact liveRow_cools (due := fun s => s.loop.frameEnd = some false) badEnd_cools h
  | loopBreak =>
    change execLoopBreak s = _ at h
    unfold execLoopBreak at h
    split at h <;> cases h
    · exact .loop _
    · exact (takeFrameEnd_cools s).trans (breakLoop_cools _)
  | loopClockReturn =>
    change execLoopClockReturn s = _ at h
    unfold execLoopClockReturn at h
    split at h <;> cases h
    · exact .refl s
    · exact .loop _
  | identify => exact messageRow_cools msgIdentify_cools h
  | bayRead => exact messageRow_cools (fun u => cools_of_eq (msgBayRead_st u _)) h
  | bayPowerOn => exact messageRow_cools (msgIntent_cools _ _) h
  | bayPowerExpedite => exact messageRow_cools (msgExpedite_cools _) h
  | bayPowerOff => exact messageRow_cools (msgIntent_cools _ _) h
  | bayPowerRelease => exact messageRow_cools (msgIntent_cools _ _) h
  | bayPowerCycle => exact messageRow_cools (msgCycle_cools _) h
  | bayPowerClear => exact messageRow_cools (msgClear_cools _) h
  | bayReset => exact messageRow_cools (msgBayReset_cools _) h
  | bayClass => exact messageRow_cools (msgBayClass_cools _ _) h
  | attentionClear => exact messageRow_cools (msgAttentionClear_cools _ _ _) h
  | attentionMask => exact messageRow_cools (msgAttentionMask_cools _ _ _ _) h
  | indicatorHold => exact messageRow_cools (msgIndicatorHold_cools _ _ _) h
  | indicatorHoldRelease => exact messageRow_cools (msgHold_cools _ _ _) h
  | blinkSync => exact messageRow_cools msgBlinkSync_cools h
  | driveTemperature => exact messageRow_cools (msgDriveTemperature_cools _ _ _ _) h
  | tableWindow => exact messageRow_cools (msgTableWindow_cools _ _ _) h
  | tablePut => exact messageRow_cools (msgTablePut_cools _ _) h
  | tableGet => exact messageRow_cools (msgTableGet_cools _) h
  | curveActivate => exact messageRow_cools (msgCurveActivate_cools _) h
  | powerRead => exact messageRow_cools (fun u => cools_of_eq (msgPowerRead_st u _)) h
  | queueRead => exact messageRow_cools (fun u => cools_of_eq (msgQueueRead_st u _)) h
  | fanRead => exact messageRow_cools (fun u => cools_of_eq (msgFanRead_st u _)) h
  | sensorRead => exact messageRow_cools (fun u => cools_of_eq (msgSensorRead_st u _)) h
  | zoneRead => exact messageRow_cools (fun u => cools_of_eq (msgZoneRead_st u _)) h
  | partResetLoop => exact messageRow_cools msgResetLoop_cools h
  | partResetTables => exact messageRow_cools msgResetTables_cools h
  | partResetFull => exact messageRow_cools (fullReset_cools .message) h
  | powerOnReset =>
    cases h
    exact .aside rfl rfl
  | resetPin =>
    cases h
    exact .aside rfl rfl
  | resetTriggerEnd => exact execResetTriggerEnd_cools h

end Rows

/-- Settles O58: every operation of the Cooling Controller hands the reserve over and recomputes the holds from what it
leaves, and every other operation leaves both aside. -/
theorem coolingMatchesKept : Obligations.CoolingMatchesKept := fun _ _ hs h =>
  step_kept (P := CoolingMatches) (fun _ _ hu => Cools.aside rfl rfl hu) (fun _ _ _ hu hc => exec_cools hc hu) hs h

end Sys2Proof.Machine
end

section
/-! PROOFS. Curves: the curve value between and beyond the active points, and CURVE ACTIVATE (R111, R112). -/

namespace Sys2Proof.Machine

open Sys2Proof.Safety

/-! ### Rounding up (R112) -/

theorem le_ceilDiv_mul (a : Int) {b : Int} (h : 0 < b) : a ≤ ceilDiv a b * b := by
  have := Int.ediv_mul_le (-a) h.ne'
  rw [ceilDiv, Int.neg_mul]
  omega

theorem ceilDiv_sub_one_mul_lt (a : Int) {b : Int} (h : 0 < b) : (ceilDiv a b - 1) * b < a := by
  have := Int.lt_ediv_add_one_mul_self (-a) h
  rw [ceilDiv, Int.sub_mul, Int.neg_mul]
  rw [Int.add_mul] at this
  omega

/-- A share of a difference, rounded up, lies between nothing and the whole. -/
theorem ceilDiv_between {d m n : Int} (hm : 0 ≤ m) (hn : m ≤ n) (h : 0 < n) :
    min 0 d ≤ ceilDiv (d * m) n ∧ ceilDiv (d * m) n ≤ max 0 d := by
  have above := le_ceilDiv_mul (d * m) h
  have below := ceilDiv_sub_one_mul_lt (d * m) h
  generalize ceilDiv (d * m) n = c at above below
  have atLeast : ∀ k, k * n ≤ d * m → k ≤ c := fun k hk => le_of_mul_le_mul_right (hk.trans above) h
  have atMost : ∀ k, d * m ≤ k * n → c ≤ k := fun k hk => by
    have := lt_of_mul_lt_mul_right (below.trans_le hk) h.le
    omega
  rcases le_total 0 d with hd | hd
  · have := atLeast 0 (by rw [zero_mul]; exact mul_nonneg hd hm)
    have := atMost d (mul_le_mul_of_nonneg_left hn hd)
    omega
  · have := atLeast d (mul_le_mul_of_nonpos_left hn hd)
    have := atMost 0 (by rw [zero_mul]; exact mul_nonpos_of_nonpos_of_nonneg hd hm)
    omega

/-! ### The curve on a list of points (R112) -/

/-- Flat below the first point. -/
theorem curveOn_below {t : Int} {p : Point} (h : t ≤ p.temp) (rest : List Point) : curveOn t (p :: rest) = p.duty := by
  cases rest with
  | nil => rfl
  | cons q rest => simp [curveOn, h]

/-- Points below the temperature are passed over up to the last one. -/
theorem curveOn_skip {t : Int} {p : Point} {pre : List Point} (h : ∀ q ∈ pre, q.temp < t) (hp : p.temp ≤ t)
    (rest : List Point) : curveOn t (pre ++ p :: rest) = curveOn t (p :: rest) := by
  induction pre with
  | nil => rfl
  | cons q pre ih =>
    have hq : ¬t ≤ q.temp := not_le.mpr (h q (by simp))
    have rest' := ih fun x hx => h x (by simp [hx])
    cases pre with
    | nil => simp [curveOn, hq, not_lt.mpr hp]
    | cons x pre =>
      have hx : ¬t < x.temp := not_lt.mpr (h x (by simp)).le
      simpa [curveOn, hq, hx] using rest'

/-- Between two points: on the straight line, rounded up. -/
theorem curveOn_segment {t : Int} {p q : Point} (hp : p.temp ≤ t) (hq : t < q.temp) (rest : List Point) :
    curveOn t (p :: q :: rest) = interpolate p q t := by
  rcases hp.lt_or_eq with hp | hp
  · simp [curveOn, not_le.mpr hp, hq]
  · rw [curveOn_below hp.ge]
    simp [interpolate, ceilDiv, hp]

/-! ### The six active points of a zone (R109, R111, R112) -/

theorem ascending_temp_lt {t : Vector Point 24} {z : ZoneIx} (h : ascending t z = true) {i j : Nat} (hij : i < j)
    (hj : j < 6) : (curvePoint t z i).temp < (curvePoint t z j).temp := by
  have next := (ascending_iff t z).mp h
  induction j, hij using Nat.le_induction with
  | base => exact next i (by omega)
  | succ j hj' ih => exact (ih (by omega)).trans (next j (by omega))

/-- The points up to a segment, its two ends and the points above it. -/
theorem activePoints_segment (s : State) (z : ZoneIx) {i : Nat} (h : i < 5) :
    ∃ rest, activePoints s z =
      (List.range i).map (curvePoint s.cool.activeCurves z) ++
        curvePoint s.cool.activeCurves z i :: curvePoint s.cool.activeCurves z (i + 1) :: rest := by
  interval_cases i <;> exact ⟨_, rfl⟩

/-- The points below point i of an ascending curve lie below a temperature from there on. -/
theorem ascending_below {s : State} {z : ZoneIx} {t : Int} (h : ascending s.cool.activeCurves z = true) {i : Nat}
    (hi : i < 6) (ht : (curvePoint s.cool.activeCurves z i).temp ≤ t) :
    ∀ q ∈ (List.range i).map (curvePoint s.cool.activeCurves z), q.temp < t := by
  intro q hq
  obtain ⟨j, hj, rfl⟩ := List.mem_map.mp hq
  exact (ascending_temp_lt h (List.mem_range.mp hj) hi).trans_le ht

theorem curveValue_below {s : State} {z : ZoneIx} {t : Int} (ht : t ≤ (curvePoint s.cool.activeCurves z 0).temp) :
    curveValue s z t = (curvePoint s.cool.activeCurves z 0).duty := by
  have value : curveOn t (activePoints s z) = (curvePoint s.cool.activeCurves z 0).duty := curveOn_below ht _
  rw [curveValue, value, Int.toNat_natCast]

theorem curveValue_above {s : State} {z : ZoneIx} {t : Int} (h : ascending s.cool.activeCurves z = true)
    (ht : (curvePoint s.cool.activeCurves z 5).temp ≤ t) :
    curveValue s z t = (curvePoint s.cool.activeCurves z 5).duty := by
  have value : curveOn t (activePoints s z) = (curvePoint s.cool.activeCurves z 5).duty :=
    curveOn_skip (rest := []) (ascending_below h (by omega) ht) ht
  rw [curveValue, value, Int.toNat_natCast]

/-- The rise from the lower end of a segment to the value on it. -/
theorem curveOn_rise {s : State} {z : ZoneIx} {t : Int} (h : ascending s.cool.activeCurves z = true) {i : Nat} (hi : i < 5)
    (hp : (curvePoint s.cool.activeCurves z i).temp ≤ t) (hq : t < (curvePoint s.cool.activeCurves z (i + 1)).temp) :
    curveOn t (activePoints s z) =
      interpolate (curvePoint s.cool.activeCurves z i) (curvePoint s.cool.activeCurves z (i + 1)) t := by
  obtain ⟨rest, points⟩ := activePoints_segment s z hi
  rw [points, curveOn_skip (ascending_below h (by omega) hp) hp, curveOn_segment hp hq]

/-- Settles O23: the points below the temperature are passed over, and the rise on the segment is a quotient rounded up. -/
theorem curveInterpolates : Obligations.CurveInterpolates := by
  intro s z t h pt v
  refine ⟨fun below => ?_, fun above => ?_, fun i hi hp hq => ?_⟩
  · simp only [v, curveValue_below below, pt]
  · simp only [v, curveValue_above h above, pt]
  · intro run rise
    have hrun : 0 < run := by omega
    have between : min 0 (((pt (i + 1)).duty : Int) - (pt i).duty) ≤ ceilDiv rise run ∧
        ceilDiv rise run ≤ max 0 (((pt (i + 1)).duty : Int) - (pt i).duty) :=
      ceilDiv_between (by omega) (by omega) hrun
    have value : v = (pt i).duty + ceilDiv rise run := by
      have on : curveOn t (activePoints s z) = (pt i).duty + ceilDiv rise run := curveOn_rise h hi hp hq
      simp only [v, curveValue, on]
      omega
    have quotient : v - (pt i).duty = ceilDiv rise run := by omega
    refine ⟨?_, ?_, ?_, ?_⟩
    · rw [quotient]
      exact le_ceilDiv_mul _ hrun
    · rw [quotient]
      exact ceilDiv_sub_one_mul_lt _ hrun
    all_goals omega

/-! ### CURVE ACTIVATE (R111) -/

theorem decodeZone_b8 (z : ZoneIx) : decodeZone (b8 z.val).toNat = some z := by
  revert z
  decide

theorem exec_curveActivate {s : State} {dst : Byte} (h : Takes s dst) (tag : Byte) (z : ZoneIx) :
    exec (.curveActivate dst tag (b8 z.val)) s = .next
      (if ascending s.cool.pendingCurves z = true then answered (activateCurve z s) 14#8 tag .ok []
      else answered s 14#8 tag .invalidCurve []) := by
  have row : exec (.curveActivate dst tag (b8 z.val)) s =
      live s (deliver dst tag 14#8 false (msgCurveActivate (b8 z.val))) := rfl
  rw [row, live_next h.1, deliver_takes h]
  simp only [msgCurveActivate, decodeZone_b8]
  split <;> rfl

/-- Settles O48: the copy is taken where the pending points ascend, and nothing else changes in either case. -/
theorem curveActivateCompletes : Obligations.CurveActivateCompletes := by
  intro s dst tag z h pt rises
  have ascends : ascending s.cool.pendingCurves z = true ↔ rises := by
    simp [ascending, rises, pt, List.range_succ]
  rw [exec_curveActivate h]
  refine ⟨fun hr => ⟨activateCurve z s, by rw [if_pos (ascends.mpr hr)], rfl, fun i hi => ?_, fun y i hy hi => ?_⟩,
    fun hr => by rw [if_neg (ascends.not.mpr hr)]⟩
  · rw [curvePoint_activateCurve s z z hi, if_pos rfl]
  · rw [curvePoint_activateCurve s y z hi, if_neg hy]

end Sys2Proof.Machine
end

section
/-! PROOFS. The cooling update: its end, the judged and driven fans, the temperatures and the demands of the zones (R106 to R108,
R113 to R115, R120 to R124). -/

namespace Sys2Proof.Machine

open Sys2Proof.Safety

/-! ### The fans (R114, R115, R120 to R122) -/

theorem exec_tachPulse {s : State} (h : s.inReset = false) (f : FanIx) :
    exec (.tachPulse f.val) s = .next (countTach f s) := onFan_next h _

theorem coolingStages_rpm (s : State) (f : FanIx) :
    ((coolingStages s).fan f).rpm = rpmOf (s.fan f).tach (s.fanCfg f).pulses s.cool.periodLength := by
  obtain ⟨-, rpm, -⟩ := coolingStages_fan_judged s f
  rw [rpm, judgedFan, judgeFan_frame]

/-- Settles O20: a fan is judged by its three cases, and the drive after the judgement leaves speed, state and streaks. -/
theorem fanSpeedCountedAndJudged : Obligations.FanSpeedCountedAndJudged := by
  intro s f x c u
  obtain ⟨state, -, low, good, tach⟩ := coolingStages_fan_judged s f
  have speed : u.rpm = rpmOf x.tach c.pulses s.cool.periodLength := coolingStages_rpm s f
  refine ⟨fun h => ?pulse, speed, tach, fun on hlow hgood => ⟨fun slow => ?slow, fun steady => ?steady⟩, fun off => ?unjudged⟩
  case pulse =>
    have count : min 65535 (x.tach + 1) = if x.tach < 65535 then x.tach + 1 else 65535 := by split <;> omega
    rw [exec_tachPulse h, countTach, count]
  case slow =>
    rw [state, low, good, judgedFan, judgeFan_slow on (speed ▸ slow)]
    split <;> rfl
  case steady =>
    rw [state, low, good, judgedFan, judgeFan_steady on (speed ▸ steady)]
    split <;> rfl
  case unjudged =>
    rw [state, low, good, judgedFan, judgeFan_unjudged off]
    exact ⟨rfl, rfl, rfl⟩

/-- The judgement leaves the applied duty to the drive. -/
theorem judgedFan_applied (s : State) (f : FanIx) : (judgedFan s f).applied = (s.fan f).applied := by
  rw [judgedFan, judgeFan_frame]

/-- Settles O24: an enabled fan slews, by the cases of R115, toward the larger of its zone's demand and its minimum duty. -/
theorem dutyMovesAtUpdate : Obligations.DutyMovesAtUpdate := by
  intro s f x c u z
  have driven : u = driveFan c z s.cool.upStep s.cool.downStep (judgedFan s f) := coolingStages_fan s f
  refine ⟨fun off => ?disabled, fun on => ?enabled⟩
  case disabled =>
    rw [driven, driveFan_disabled off]
    exact ⟨rfl, rfl, rfl⟩
  case enabled =>
    rw [driveFan_enabled on, judgedFan_applied] at driven
    have target : u.target = max z.demand c.minDuty := by rw [driven]
    have applied : u.applied =
        slew s.cool.upStep s.cool.downStep c.minDuty u.target x.applied z.source.full := by rw [driven]
    have checked : u.checked = decide (32 ≤ u.applied) := by rw [driven]
    have least : c.minDuty ≤ u.target := target ▸ Nat.le_max_right ..
    refine ⟨target, ?_, by rw [checked, decide_eq_true_eq], fun ⟨full, jump⟩ hm => ?_, fun moves => ?_⟩
    · rw [applied]
      exact minDuty_le_slew ..
    · rw [applied, z.source.full_iff.mpr jump, slew_full _ _ hm full]
    · rw [← z.source.full_iff] at moves
      rw [applied]
      exact ⟨slew_rising _ _ moves, slew_falling _ _ moves, slew_still _ _ moves least⟩

/-! ### The zones (R108, R113, R124) -/

theorem largest_eq_max? (l : List Int) : largest l = l.max? := by
  cases l <;> rfl

/-- The reading that a sensor gives its zone (R108). -/
def sensorReading (s : State) (z : ZoneIx) (ch : ChannelIx) : Option Int :=
  if ch ≠ 8 ∧ (s.sensor ch).enabled = true ∧ (s.channel ch).valid = true ∧ (s.sensor ch).zone = some z then
    some (s.channel ch).value
  else none

/-- The reading that a bay gives its zone (R108). -/
def bayReading (s : State) (z : ZoneIx) (b : BayIx) : Option Int :=
  match s.temp b with
  | some t =>
    if bayOf s z b && s.tempValid b then some (max (-80) (t.value - 2 * ((s.zoneCfg z).driveOffset : Int))) else none
  | none => none

theorem zoneReadings_eq (s : State) (z : ZoneIx) :
    zoneReadings s z = allChannels.filterMap (sensorReading s z) ++ allBays.filterMap (bayReading s z) := rfl

theorem sensorReading_eq_some_iff {s : State} {z : ZoneIx} {ch : ChannelIx} {v : Int} :
    sensorReading s z ch = some v ↔
      (ch ≠ 8 ∧ (s.sensor ch).enabled = true ∧ (s.channel ch).valid = true ∧ (s.sensor ch).zone = some z) ∧
        v = (s.channel ch).value := by
  unfold sensorReading
  split
  · next h => exact ⟨fun e => ⟨h, (Option.some.inj e).symm⟩, fun ⟨_, e⟩ => congrArg some e.symm⟩
  · next h => exact ⟨nofun, fun ⟨k, _⟩ => absurd k h⟩

/-- A record is valid while its age is below the effective staleness limit (R95, R99). -/
theorem tempValid_of_some {s : State} {b : BayIx} {t : TempRec} (h : s.temp b = some t) :
    s.tempValid b = decide (t.age < min 65535 (s.scan.staleness * 1000)) := by
  simp only [State.tempValid, h]
  rfl

theorem bayReading_eq_some_iff {s : State} {z : ZoneIx} {b : BayIx} {v : Int} :
    bayReading s z b = some v ↔
      (s.populated b = true ∧ (s.bayCfg b).zone = z) ∧ ∃ t, s.temp b = some t ∧
        t.age < min 65535 (s.scan.staleness * 1000) ∧
          v = max (-80) (t.value - 2 * ((s.zoneCfg z).driveOffset : Int)) := by
  unfold bayReading
  cases ht : s.temp b with
  | none => simp
  | some t => simp [bayOf, tempValid_of_some ht, and_assoc, eq_comm (a := v)]

theorem mem_zoneReadings {s : State} {z : ZoneIx} {v : Int} :
    v ∈ zoneReadings s z ↔ (∃ ch, sensorReading s z ch = some v) ∨ ∃ b, bayReading s z b = some v := by
  have every : ∀ ch : ChannelIx, ch ∈ allChannels := List.mem_finRange
  simp [zoneReadings_eq, every, mem_allBays]

theorem zoneReadings_length (s : State) (z : ZoneIx) :
    (zoneReadings s z).length =
      (allChannels.filter fun ch => (sensorReading s z ch).isSome).length +
        (allBays.filter fun b => (bayReading s z b).isSome).length := by
  rw [zoneReadings_eq, List.length_append, List.length_filterMap_eq_countP, List.length_filterMap_eq_countP,
    List.countP_eq_length_filter, List.countP_eq_length_filter]

/-- Settles O21: the readings of a zone are those of its sensors and of its bays, and the largest is taken. -/
theorem zoneTemperatureAtUpdate : Obligations.ZoneTemperatureAtUpdate := by
  intro s z u sensor bay reading
  have zone : u = (coolingStages s).zone z := rfl
  rw [coolingStages_zone] at zone
  have sensed : ∀ ch v, sensorReading s z ch = some v ↔ sensor ch = true ∧ v = (s.channel ch).value := fun ch v => by
    simp [sensorReading_eq_some_iff, sensor, and_assoc]
  have reported : ∀ b v, bayReading s z b = some v ↔
      bay b = true ∧ ∃ t, s.temp b = some t ∧ v = max (-80) (t.value - 2 * ((s.zoneCfg z).driveOffset : Int)) :=
    fun b v => by
      simp only [bayReading_eq_some_iff, bay]
      cases s.temp b <;> simp [and_assoc]
  have reads : ∀ v, v ∈ zoneReadings s z ↔ reading v := fun v => by
    simp only [mem_zoneReadings, sensed, reported, reading]
  have sensors : (fun ch => (sensorReading s z ch).isSome) = sensor := by
    funext ch
    rw [Bool.eq_iff_iff, Option.isSome_iff_exists]
    simp [sensed]
  have bays : (fun b => (bayReading s z b).isSome) = bay := by
    funext b
    rw [Bool.eq_iff_iff, Option.isSome_iff_exists]
    simp only [reported, bay]
    cases s.temp b <;> simp
  refine ⟨fun v => ?_, ?_, ?_⟩
  · simp only [zone, largest_eq_max?, List.max?_eq_some_iff, reads]
  · simp only [zone, largest_eq_max?, List.max?_eq_none_iff, List.eq_nil_iff_forall_not_mem, reads, not_exists]
  · simp only [zone, zoneReadings_length, sensors, bays]

/-- A bay of the zone is critical: its valid record has reached twice the critical temperature of its class (R113). -/
theorem zoneCritical_iff (s : State) (z : ZoneIx) :
    zoneCritical s z = true ↔
      ∃ (b : BayIx) (t : TempRec) (c : ClassIx), s.populated b = true ∧ (s.bayCfg b).zone = z ∧ s.temp b = some t ∧
        t.age < min 65535 (s.scan.staleness * 1000) ∧ (s.bay b).cls = .cls c ∧
          2 * ((s.driveClass c).critical : Int) ≤ t.value := by
  unfold zoneCritical
  rw [List.any_eq_true]
  refine exists_congr fun b => ?_
  rw [and_iff_right (mem_allBays b)]
  cases ht : s.temp b with
  | none => simp
  | some t => cases hc : (s.bay b).cls <;> simp [bayOf, State.classOf, tempValid_of_some ht, hc, and_assoc]

/-- The first case that applies (R113). -/
theorem demandOf_failed {s : State} {z : ZoneIx} (h : (s.zone z).fanFailed = true) :
    demandOf s z = (255, .fanFailed) := if_pos h

theorem demandOf_critical {s : State} {z : ZoneIx} (hf : (s.zone z).fanFailed = false) (h : zoneCritical s z = true) :
    demandOf s z = (255, .critical) := by
  simp [demandOf, hf, h]

theorem demandOf_absent {s : State} {z : ZoneIx} (hf : (s.zone z).fanFailed = false) (hc : zoneCritical s z = false)
    (h : (s.zone z).temp = none) : demandOf s z = ((s.zoneCfg z).fallback, .fallback) := by
  simp [demandOf, hf, hc, h]

theorem demandOf_present {s : State} {z : ZoneIx} {t : Int} (hf : (s.zone z).fanFailed = false)
    (hc : zoneCritical s z = false) (h : (s.zone z).temp = some t) : demandOf s z = (curveValue s z t, .curve) := by
  simp [demandOf, hf, hc, h]

/-- Settles O22: the demand is taken from the state that the first two stages leave, which differs from the one before the
update in the fan-failed fields and the temperatures alone. -/
theorem zoneDemandAtUpdate : Obligations.ZoneDemandAtUpdate := by
  intro s z u critical
  have only := measured_onlyCooled s
  have failed : ((measured s).zone z).fanFailed = u.fanFailed := by
    simp only [u, measured_zone, coolingStages_zone_tach]
  have temp : ((measured s).zone z).temp = u.temp := by
    simp only [u, measured_zone, coolingStages_zone_tach]
  have demand : u.demand = (demandOf (measured s) z).1 ∧ u.source = (demandOf (measured s) z).2 := by
    simp only [u, coolingStages_zone_tach, and_self]
  have found : zoneCritical (measured s) z = true ↔ critical := by
    rw [zoneCritical_congr only, zoneCritical_iff]
  have fallback : (measured s).zoneCfg z = s.zoneCfg z := by rw [only]; rfl
  have curve : ∀ t, curveValue (measured s) z t = curveValue s z t := fun t => by rw [only]; rfl
  rw [demand.1, demand.2, ← failed, ← temp]
  refine ⟨fun hf => ?_, fun hf hc => ?_, fun hf hc ht => ?_, fun hf hc t ht => ?_⟩
  · rw [demandOf_failed hf]
    exact ⟨rfl, rfl⟩
  · rw [demandOf_critical hf (found.mpr hc)]
    exact ⟨rfl, rfl⟩
  · rw [demandOf_absent hf (eq_false_of_ne_true (found.not.mpr hc)) ht, fallback]
    exact ⟨rfl, rfl⟩
  · rw [demandOf_present hf (eq_false_of_ne_true (found.not.mpr hc)) ht, curve]
    exact ⟨rfl, rfl⟩

/-! ### The end of the update (R58, R106, R107, R123, R124) -/

/-- An update is an attempt point where the reserve falls or a hold clears, since no bay's draw and no overdraw moves. -/
theorem takeCooling_eq (s : State) :
    takeCooling s =
      if (coolingStages s).acct.fanReserve < s.acct.fanReserve ∨ holdCleared s (coolingStages s) = true then
        attempt (coolingStages s)
      else coolingStages s := by
  obtain ⟨rest, acct, -⟩ := coolingStages_frame s
  refine event_map_cooling (State.committed_same ?_ ?_) ?_
  · rw [rest]
  · rw [rest]
  · rw [acct]

theorem exec_coolingUpdate_due {s : State} (h : s.inReset = false) (hd : s.cool.periodEnd ≤ s.time.now) :
    exec .coolingUpdate s = .next (takeCooling s) := by
  have row : exec .coolingUpdate s = live s fun s => if coolingDue s then takeCooling s else s := rfl
  rw [row, live_next h, if_pos ((coolingDue_iff s).mpr hd)]

/-- Settles O19: the six stages, read off block by block, and the end of the event. -/
theorem coolingUpdateCompletes : Obligations.CoolingUpdateCompletes := by
  intro s h hd u
  obtain ⟨rest, acct, cool⟩ := coolingStages_frame s
  obtain ⟨fanCfg, zoneCfg, -⟩ := coolingStages_cfg s
  have handed : u.acct.fanReserve = reserve u := by simp only [u, acct]
  refine ⟨?_, ?_, cool, ?_, fun z => ⟨?_, ?_⟩⟩
  · simp only [exec_coolingUpdate_due h hd, takeCooling_eq, holdCleared_iff, u]
  · rw [handed, ← acct]
    exact rest
  · rw [handed]
    have share : fanShare u = fun f => if (s.fanCfg f).enabled then
        (if (u.fan f).state = .failed then (s.fanCfg f).fullCurrent
        else ((s.fanCfg f).fullCurrent * (u.fan f).applied + 254) / 255) else 0 := by
      funext f
      unfold fanShare State.fanCfg
      rw [fanCfg]
    rw [reserve, share]
  · have failed : (u.zone z).fanFailed = zoneHasFailure u z := by simp only [u, coolingStages_zone]
    simp only [failed, zoneHasFailure_iff, State.fanCfg, fanCfg, u]
  · have hold : (u.zone z).hold = holdOf u z ∧ (u.zone z).fanFailed = zoneHasFailure u z := by
      simp only [u, coolingStages_zone, and_self]
    rw [hold.1, hold.2, holdOf_iff, State.zoneCfg, zoneCfg]
    rfl

end Sys2Proof.Machine
end

section
/-! PROOFS. The activity stretch of a bay and BLINK SYNC (R134, R135). -/

namespace Sys2Proof.Machine

open Sys2Proof.Safety

/-! ### The activity stretch -/

theorem BayLights.edge_of_none {x : BayLights} (h : x.phase = .none) :
    x.edge = { x with edgeDue := false, phase := .dark, timer := 60 } := if_pos h

/-- An edge within a stretch is absorbed. -/
theorem BayLights.edge_of_stretch {x : BayLights} (h : x.phase ≠ .none) : x.edge = { x with edgeDue := false } :=
  if_neg h

theorem BayLights.expire_of_dark {x : BayLights} (h : x.phase = .dark) :
    x.expire = { x with phase := .lit, timer := 60 } := by
  simp only [BayLights.expire, h]

theorem BayLights.expire_of_lit {x : BayLights} (h : x.phase = .lit) :
    x.expire = { x with phase := .none, timer := 0 } := by
  simp only [BayLights.expire, h]

theorem stretchDue_iff (s : State) (b : BayIx) :
    stretchDue s b = true ↔ (s.bayLights b).phase ≠ .none ∧ (s.bayLights b).timer = 0 := by
  simp [stretchDue]

theorem exec_driveActivityEdge_due {s : State} {b : BayIx} (hb : BayLive s b) (hd : (s.bayLights b).edgeDue = true) :
    exec (.driveActivityEdge b.val) s = .next (s.setBayLights b (s.bayLights b).edge) := by
  have row : exec (.driveActivityEdge b.val) s = .next (takeEdge b s) := onBay_next hb _
  have due : edgeDue s b = true := hd
  rw [row, takeEdge, if_pos due]

theorem exec_activityStretchExpiry_due {s : State} {b : BayIx} (hb : BayLive s b)
    (hp : (s.bayLights b).phase ≠ .none) (ht : (s.bayLights b).timer = 0) :
    exec (.activityStretchExpiry b.val) s = .next (s.setBayLights b (s.bayLights b).expire) := by
  have row : exec (.activityStretchExpiry b.val) s = .next (takeStretch b s) := onBay_next hb _
  rw [row, takeStretch, if_pos ((stretchDue_iff s b).mpr ⟨hp, ht⟩)]

/-- Settles O25: the two rows of a stretch, by its phase, and the message, by its destination. -/
theorem activityAndBlinkSyncComplete : Obligations.ActivityAndBlinkSyncComplete := by
  refine ⟨fun s b hb => ⟨fun hd => ?_, fun ht => ⟨fun dark => ?_, fun lit => ?_⟩⟩, ?_⟩
  · rw [exec_driveActivityEdge_due hb hd]
    cases h : (s.bayLights b).phase with
    | none => rw [BayLights.edge_of_none h]
    | dark => rw [BayLights.edge_of_stretch (by simp [h])]
    | lit => rw [BayLights.edge_of_stretch (by simp [h])]
  · rw [exec_activityStretchExpiry_due hb (by simp [dark]) ht, BayLights.expire_of_dark dark]
  · rw [exec_activityStretchExpiry_due hb (by simp [lit]) ht, BayLights.expire_of_lit lit]
  · intro s dst tag hr hp u
    have answer : msgBlinkSync s = ⟨u, .ok, [], false⟩ := rfl
    constructor
    · intro all
      exact (message_to_part_or_all hr hp (.inl all) answer tag 9#8).trans (by rw [if_pos all])
    · intro takes
      exact message_answered takes answer tag 9#8 true

end Sys2Proof.Machine
end

section
/-! PROOFS. The drive levels of the patterns (R132 to R134). -/

namespace Sys2Proof.Machine

/-- The step of a rise or fall at a distance from its beginning: the last of the sixteen that has begun (R133). -/
theorem breatheStep_eq {n k : Nat} (hk : k ≤ 15) (begun : 1000 * k ≤ 16 * n)
    (last : 16 * n < 1000 * (k + 1) ∨ k = 15) : min 15 (n * 16 / 1000) = k := by
  omega

theorem breatheLevel_rise {e : Nat} (h : e < 1000) : breatheLevel e = min 15 (e * 16 / 1000) := if_pos h

theorem breatheLevel_fall {e : Nat} (h : 1000 ≤ e) : breatheLevel e = 15 - min 15 ((e - 1000) * 16 / 1000) :=
  if_neg (Nat.not_lt.mpr h)

/-- Settles O26: all but BREATHE are the equations of the level; BREATHE goes by the steps of its rise and fall. -/
theorem patternLevels : Obligations.PatternLevels := by
  intro brightness e phase level
  have breathe : level .breathe = brightness * breatheLevel e / 15 := rfl
  refine ⟨rfl, rfl, rfl, rfl, rfl, rfl, fun k hk => ⟨fun rise begun last => ?_, fun fall _ begun last => ?_⟩⟩
  · rw [breathe, breatheLevel_rise rise, breatheStep_eq hk begun last]
  · rw [breathe, breatheLevel_fall fall, breatheStep_eq hk begun last]

end Sys2Proof.Machine
end

section
/-! PROOFS. The sources of a light and the fifteen conditions of a bay (R137, R140, R141). -/

namespace Sys2Proof.Machine

/-! ### The first offer -/

/-- The first pattern other than PASS among what the sources offer the light, else OFF (R141). -/
theorem firstOffer_eq_find (l : Light) (ps : List Patterns) :
    firstOffer l ps = (((ps.map (·.of l)).find? fun p => p ≠ .pass).getD .off) := by
  induction ps with
  | nil => rfl
  | cons p rest ih =>
    rw [firstOffer, List.map_cons]
    split
    · next pass => rw [List.find?_cons_of_neg (by simpa using pass), ih]
    · next offers => rw [List.find?_cons_of_pos (by simpa using offers), Option.getD_some]

/-- What the matching rules of one urgency offer a light, in ascending number (R140). -/
theorem matching_map (s : State) (b : BayIx) (l : Light) (urgent : Bool) :
    (matching s b urgent).map (·.of l) =
      (s.ind.rules.toList.filter fun r =>
        (r.urgent == urgent) && r.required.all (s.condition b) && r.excluded.all fun c => !s.condition b c).map
        fun r => r.patterns.of l := by
  simp only [matching, ruleMatches, List.map_map, Bool.and_assoc]
  rfl

/-! ### The conditions of a bay -/

theorem Bay.resetAsserted_iff (x : Bay) :
    x.resetAsserted = true ↔ x.state = .surge ∨ (x.state = .run ∧ x.resetHold ≠ none) := by
  rw [Bay.resetAsserted_eq, decide_eq_true_iff]

theorem AttnSet.meets_iff (a m : AttnSet) :
    a.meets m = true ↔
      (a.presence = true ∧ m.presence = true) ∨ (a.power = true ∧ m.power = true) ∨
        (a.fault = true ∧ m.fault = true) ∨ (a.resetDone = true ∧ m.resetDone = true) ∨
        (a.temperature = true ∧ m.temperature = true) := by
  simp only [AttnSet.meets, Bool.or_eq_true, Bool.and_eq_true, or_assoc]

theorem State.reportedAttention_iff (s : State) (b : BayIx) :
    s.reportedAttention b = true ↔
      s.sup.attentionEnable = true ∧ (s.bay b).attn.meets (s.bayCfg b).mask = true := Bool.and_eq_true_iff

theorem State.reportsHeld_iff (s : State) (b : BayIx) :
    s.reportsHeld b = true ↔ (s.bay b).state = .queued ∧ (s.zone (s.bayCfg b).zone).hold = true := by
  simp [State.reportsHeld, State.zoneHeld]

theorem State.tempValid_iff (s : State) (b : BayIx) :
    s.tempValid b = true ↔ ∃ t, s.temp b = some t ∧ t.age < min 65535 (s.scan.staleness * 1000) := by
  cases ht : s.temp b with
  | none => simp [State.tempValid, ht]
  | some t => rw [tempValid_of_some ht]; simp

theorem State.classOf_eq_some_iff (s : State) (b : BayIx) (d : DriveClass) :
    s.classOf b = some d ↔ ∃ c, (s.bay b).cls = .cls c ∧ s.driveClass c = d := by
  cases hc : (s.bay b).cls <;> simp [State.classOf, hc]

theorem State.condition_present_iff (s : State) (b : BayIx) :
    s.condition b .present = true ↔
      (s.bay b).state = .idle ∨ (s.bay b).state = .queued ∨ (s.bay b).state = .surge ∨ (s.bay b).state = .run ∨
        (s.bay b).state = .fault ∨ ((s.bay b).state = .drain ∧ (s.bay b).removed = false) := by
  cases h : (s.bay b).state <;> simp [State.condition, h]

theorem State.condition_tempHot_iff (s : State) (b : BayIx) :
    s.condition b .tempHot = true ↔
      ∃ t, s.temp b = some t ∧ t.age < min 65535 (s.scan.staleness * 1000) ∧
        ∃ c, (s.bay b).cls = .cls c ∧ 2 * ((s.driveClass c).warn : Int) ≤ t.value := by
  have hot : s.condition b .tempHot = true ↔
      ∃ t d, s.temp b = some t ∧ s.classOf b = some d ∧ s.tempValid b = true ∧
        2 * (d.warn : Int) ≤ t.value := by
    cases ht : s.temp b <;> cases hc : s.classOf b <;> simp [State.condition, ht, hc]
  rw [hot]
  constructor
  · rintro ⟨t, d, ht, hd, valid, warm⟩
    obtain ⟨c, hc, rfl⟩ := (s.classOf_eq_some_iff b d).mp hd
    rw [tempValid_of_some ht, decide_eq_true_iff] at valid
    exact ⟨t, ht, valid, c, hc, warm⟩
  · rintro ⟨t, ht, valid, c, hc, warm⟩
    exact ⟨t, _, ht, (s.classOf_eq_some_iff b _).mpr ⟨c, hc, rfl⟩, (s.tempValid_iff b).mpr ⟨t, ht, valid⟩, warm⟩

theorem State.condition_tempStale_iff (s : State) (b : BayIx) :
    s.condition b .tempStale = true ↔ (s.bay b).state = .run ∧ ¬ s.tempValid b = true := by
  simp [State.condition]

/-- Settles O27: the sources of a light offered in their order, then the conditions one by one. -/
theorem lightTakesFirstOffer : Obligations.LightTakesFirstOffer := by
  constructor
  · intro s b l matching hold offers
    have offered : (sources s b).map (·.of l) = offers := by
      simp only [sources, List.map_append, matching_map, offers, hold]
      cases (s.bayLights b).hold <;> rfl
    rw [resolveLight, firstOffer_eq_find, offered]
  · intro s b x z mask valid
    refine ⟨s.condition_present_iff b, decide_eq_true_iff, s.reportsHeld_iff b, decide_eq_true_iff,
      decide_eq_true_iff, decide_eq_true_iff, decide_eq_true_iff, x.resetAsserted_iff, ?_,
      s.condition_tempHot_iff b, ?_, Iff.rfl, Iff.rfl, Iff.rfl, Iff.rfl⟩
    · exact (s.reportedAttention_iff b).trans (and_congr_right' (x.attn.meets_iff mask))
    · exact (s.condition_tempStale_iff b).trans (and_congr_right' (not_congr (s.tempValid_iff b)))

end Sys2Proof.Machine
end

section
/-! PROOFS. The slot map, the table window and the loop clock: what they stand on, and the operations that leave it alone
or resolve the map again (R149, R157, R158, R174). -/

namespace Sys2Proof.Machine

open Sys2Proof.Safety

/-! ### What the slot map and the table window stand on -/

/-- The straps, slot fields, position, slot map and conflict flag, and the table window. -/
structure MapView where
  straps : Straps
  slots : BayIx → SlotField
  position : Option (Fin 8)
  slotMap : Vector (Option Nat) 24
  conflict : Bool
  window : Option Window

def State.mapView (s : State) : MapView where
  straps := s.rst.straps
  slots := fun b => (s.bayCfg b).slot
  position := s.loop.position
  slotMap := s.loop.slotMap
  conflict := s.loop.mapConflict
  window := s.window

/-- From s to t the slot map stays resolved and the table window in its table. -/
structure MapKept (s t : State) : Prop where
  resolved : MapResolved s → MapResolved t
  window : WindowInBounds s → WindowInBounds t

/-- The same with the loop clock as it was. -/
structure Maps (s t : State) : Prop extends MapKept s t where
  clock : t.loop.clock = s.loop.clock

theorem claim_of_mapView {s t : State} (h : t.mapView = s.mapView) : claim t = claim s := by
  have straps : t.rst.straps = s.rst.straps := congrArg MapView.straps h
  have slots : (fun b => (t.bayCfg b).slot) = fun b => (s.bayCfg b).slot := congrArg MapView.slots h
  funext b
  rw [claim, claim, fieldSlot_congr (congrArg MapView.position h), show (t.bayCfg b).slot = _ from congrFun slots b,
    State.populated, State.populated, straps]

theorem MapKept.aside {s t : State} (h : t.mapView = s.mapView) : MapKept s t := by
  have claims := claim_of_mapView h
  have ranks : outranked t = outranked s := by
    funext b
    rw [outranked, outranked, claims]
  have resolved : resolvedSlot t = resolvedSlot s := by
    funext b
    rw [resolvedSlot, resolvedSlot, ranks, claims]
  have slotMap : t.loop.slotMap = s.loop.slotMap := congrArg MapView.slotMap h
  have conflict : t.loop.mapConflict = s.loop.mapConflict := congrArg MapView.conflict h
  have window : t.window = s.window := congrArg MapView.window h
  refine ⟨fun hs => ?_, fun hs => ?_⟩
  · rwa [MapResolved, resolved, ranks, slotMap, conflict]
  · rwa [WindowInBounds, window]

theorem MapKept.trans {s t u : State} (h : MapKept s t) (k : MapKept t u) : MapKept s u :=
  ⟨k.resolved ∘ h.resolved, k.window ∘ h.window⟩

theorem resolveMap_window (s : State) : (resolveMap s).window = s.window := by
  unfold resolveMap
  rfl

theorem resolveMap_clock (s : State) : (resolveMap s).loop.clock = s.loop.clock := by
  unfold resolveMap
  rfl

namespace Maps

variable {s t u : State}

theorem aside (h : t.mapView = s.mapView) (clock : t.loop.clock = s.loop.clock) : Maps s t := ⟨.aside h, clock⟩

theorem refl (s : State) : Maps s s := .aside rfl rfl

theorem trans (h : Maps s t) (k : Maps t u) : Maps s u := ⟨h.toMapKept.trans k.toMapKept, k.clock.trans h.clock⟩

/-- A map resolved again is resolved, whatever claims have changed (R157, R158). -/
theorem remapped (window : t.window = s.window) (clock : t.loop.clock = s.loop.clock) : Maps s (resolveMap t) :=
  ⟨⟨fun _ => resolveMap_mapResolved t, fun hs => by rwa [WindowInBounds, resolveMap_window, window]⟩,
    (resolveMap_clock t).trans clock⟩

/-- A write of a bay's table 0 entry that leaves its slot field. -/
theorem setBayCfg (s : State) {b : BayIx} {c : BayCfg} (h : c.slot = (s.bayCfg b).slot) : Maps s (s.setBayCfg b c) := by
  have slots : (fun d => ((s.setBayCfg b c).bayCfg d).slot) = fun d => (s.bayCfg d).slot := by
    funext d
    by_cases hd : d = b
    · rw [hd, State.bayCfg_setBayCfg_same, h]
    · rw [State.bayCfg_setBayCfg_other _ _ hd]
  exact .aside (by rw [State.mapView, slots]; rfl) rfl

end Maps

/-! ### Working records and events -/

theorem attempt_maps (s : State) : Maps s (attempt s) := by
  have h := attempt_onlyAdmits s
  rw [h.rest, h.sup]
  exact .aside rfl rfl

theorem event_maps {f : Work → Work} {s : State} (h : Maps (Work.start s).st (f (Work.start s)).st) :
    Maps s (event f s) :=
  event_kept (P := Maps s) (fun t ht => ht.trans (attempt_maps t)) (h.trans (.aside rfl rfl))

theorem BaysOnly.maps {w w' : Work} (h : BaysOnly w w') : Maps w.st w'.st := by
  rw [h.rest]
  exact .aside rfl rfl

theorem Edits.maps {b : BayIx} {w w' : Work} (h : Edits b w w') : Maps w.st w'.st := h.frame.maps

theorem Reseats.maps {b : BayIx} {w w' : Work} (h : Reseats b w w') : Maps w.st w'.st := h.edits.maps

theorem foldl_maps_work {α : Type} {k : Work → α → Work} (h : ∀ w x, Maps w.st (k w x).st) (l : List α) (w : Work) :
    Maps w.st (l.foldl k w).st := by
  induction l generalizing w with
  | nil => exact .refl _
  | cons x l ih => exact (h w x).trans (ih _)

/-- An event that is taken where it is due. -/
theorem dueEvent_maps {due : Bool} {f : Work → Work} {s : State}
    (h : due = true → Maps (Work.start s).st (f (Work.start s)).st) : Maps s (if due = true then event f s else s) := by
  split
  · exact event_maps (h ‹_›)
  · exact .refl s

/-! ### The events of the bays (chapter 1) -/

section Bay

variable (b : BayIx) (s : State)

theorem takePresenceActive_maps : Maps s (takePresenceActive b s) := dueEvent_maps fun _ => presenceActive_reseats.maps

theorem takePresenceLoss_maps : Maps s (takePresenceLoss b s) := dueEvent_maps fun _ => presenceLoss_reseats.maps

theorem takePowerGoodSeen_maps : Maps s (takePowerGoodSeen b s) :=
  dueEvent_maps fun h => (powerGoodSeen_reseats (by simp [powerGoodSeenDue_surge h])).maps

theorem takePowerGoodLost_maps : Maps s (takePowerGoodLost b s) :=
  dueEvent_maps fun _ => (Edits.enterFault (Work.start s) _).maps

theorem takeSwitchFault_maps : Maps s (takeSwitchFault b s) :=
  dueEvent_maps fun _ => (Edits.enterFault (Work.start s) _).maps

theorem takeSurgeDeadline_maps : Maps s (takeSurgeDeadline b s) :=
  dueEvent_maps fun h => (surgeDeadline_reseats (by simp [surgeDeadlineDue_surge h])).maps

theorem takePgDeadline_maps : Maps s (takePgDeadline b s) :=
  dueEvent_maps fun h => (powerGoodDeadline_reseats (by simp [pgDeadlineDue_surge h])).maps

theorem takeResetHold_maps : Maps s (takeResetHold b s) :=
  dueEvent_maps fun _ => (resetHoldExpiry_reseats (w := Work.start s)).maps

theorem takeEdge_maps : Maps s (takeEdge b s) := by
  unfold takeEdge
  split
  · exact .aside rfl rfl
  · exact .refl s

theorem takeStretch_maps : Maps s (takeStretch b s) := by
  unfold takeStretch
  split
  · exact .aside rfl rfl
  · exact .refl s

theorem takeStale_maps : Maps s (takeStale b s) := by
  refine dueEvent_maps fun _ => ?_
  show Maps s (turnStale b s)
  unfold turnStale
  split <;> exact .aside rfl rfl

end Bay

theorem takeExpiries_maps (s : State) : Maps s (takeExpiries s) :=
  event_maps (f := sweep expiryHere allBays) (sweep_baysOnly expiryHere_edits _ _).maps

theorem takeReport_maps (n : Nat) (v : BitVec 16) (w : Work) : Maps w.st (takeReport n v w).st := by
  unfold takeReport
  split
  · exact .refl _
  · split
    · split
      · next h =>
        simp only [Bool.and_eq_true, decide_eq_true_eq] at h
        exact (storeReport_reseats _ h.2).maps
      · exact .refl _
    · exact .refl _

/-- One request byte of a frame (R161). -/
theorem applyRequest_maps (w : Work) (q : BayIx × Byte) : Maps w.st (applyRequest w q).st := by
  unfold applyRequest
  split
  · have coded : Maps w.st
        (w.map fun s => s.setBayLights q.1 { s.bayLights q.1 with loopCode := requestCode q.2 }).st := .aside rfl rfl
    refine coded.trans ?_
    generalize w.map _ = w
    dsimp only
    split
    · exact .refl _
    · have noted : Edits q.1 w (w.setBay q.1 { w.st.bay q.1 with loopIntent := requestIntent q.2 }) := .setBay ..
      exact (noted.trans (.evaluate _)).maps
  · exact .refl _

/-! ### The scheduler, the sensors and the Cooling Controller (chapters 2 to 5) -/

theorem takeBoundary_maps (s : State) : Maps s (takeBoundary s) :=
  event_maps (f := fun w => (w.map fun s => { s with sched := s.sched.boundary s.time.now }).owe) (.aside rfl rfl)

theorem takeConversion_maps (s : State) : Maps s (takeConversion s) := by
  have ended : Maps s (endSlot s) := by
    rw [endSlot_eq]
    exact .aside rfl rfl
  exact event_maps ended

theorem takeCooling_maps (s : State) : Maps s (takeCooling s) := by
  have updated : Maps s (coolingStages s) := by
    rw [(coolingStages_frame s).1]
    generalize (coolingStages s).cool = cool, (coolingStages s).acct = acct
    exact .aside rfl rfl
  exact event_maps updated

theorem rejudgeAll_maps (s : State) : Maps s (rejudgeAll s) := by
  rw [rejudgeAll_eq]
  generalize Vector.ofFn (judgedBay s) = bays, Vector.ofFn (judgedTemp s) = temps
  exact .aside rfl rfl

/-! ### Table writes (R178) -/

/-- A changed slot field has the map resolved again; what follows is of the bay's own records (R6, R157). -/
theorem writeBayCfg_maps (b : BayIx) (c : BayCfg) (w : Work) : Maps w.st (writeBayCfg b c w).st := by
  unfold writeBayCfg
  extract_lets old written mapped owed acted
  have stored : Maps w.st mapped.st := by
    unfold mapped
    split
    · exact .remapped rfl rfl
    · next same => exact .setBayCfg w.st (not_not.mp same).symm
  refine stored.trans ?_
  split
  · have zone : Edits b mapped owed := by
      unfold owed
      split
      · exact .owe _
      · exact .refl b _
    have policy : Edits b owed acted := by
      unfold acted
      split
      · exact .evaluate _
      · exact .refl b _
    refine (zone.trans policy).maps.trans ?_
    split
    · exact (Edits.reresolve (b := b) _).maps
    · exact .refl _
  · exact .refl _

theorem writePower_maps (c g m : Nat) (w : Work) : Maps w.st (writePower c g m w).st := by
  unfold writePower
  dsimp only
  split <;> exact .aside rfl rfl

theorem writeCooling_maps (p u d l : Nat) (w : Work) : Maps w.st (writeCooling p u d l w).st := by
  have written : Maps w.st (w.map (withCooling p u d l)).st := .aside rfl rfl
  unfold writeCooling
  dsimp only
  split
  · rw [Work.st_map]
    exact written.trans (rejudgeAll_maps _)
  · exact written

/-- A put that stores keeps the map resolved and leaves the window to its message. -/
def Put.Maps (p : Put) : Prop := ∀ clamped f, p = .store clamped f → ∀ w, Machine.Maps w.st (f w).st

theorem Put.maps_refuse (r : Result) : (Put.refuse r).Maps := fun _ _ h => nomatch h

theorem Put.maps_store {f : Work → Work} (h : ∀ w, Machine.Maps w.st (f w).st) (clamped : Bool) :
    (Put.store clamped f).Maps := by
  rintro _ _ ⟨⟩
  exact h

theorem Put.maps_of {α : Type} {f : α → Work → Work} (h : ∀ v w, Machine.Maps w.st (f v w).st) (x : Option (α × Bool)) :
    (Put.of x f).Maps := by
  unfold Put.of
  split
  · exact Put.maps_store (h _) _
  · exact Put.maps_refuse _

theorem putPart_maps (i : Nat) (e : List Byte) : (putPart i e).Maps := by
  unfold putPart
  split
  · exact Put.maps_store (writePower_maps _ _ _) _
  · exact Put.maps_store (f := writePace _) (fun _ => .aside rfl rfl) _
  · exact Put.maps_store (f := writeTiming _ _) (fun _ => .aside rfl rfl) _
  · split
    · exact Put.maps_refuse _
    · exact Put.maps_store (f := writeLoop _ _) (fun _ => .aside rfl rfl) _
  · exact Put.maps_store (writeCooling_maps _ _ _ _) _
  · exact Put.maps_store (f := writeBrightness _) (fun _ => .aside rfl rfl) _

theorem putEntry_maps (table i : Nat) (e : List Byte) (s : State) : (putEntry table i e s).Maps := by
  unfold putEntry
  split
  · unfold putBayCfg
    split
    · exact Put.maps_refuse _
    · split
      · exact Put.maps_refuse _
      · exact Put.maps_store (writeBayCfg_maps _ _) _
  · exact Put.maps_of (f := writeCarrier _) (fun _ _ => .aside rfl rfl) _
  · exact Put.maps_of (f := writeClass _) (fun _ _ => .aside rfl rfl) _
  · exact Put.maps_of (f := writePatterns _) (fun _ _ => .aside rfl rfl) _
  · exact Put.maps_of (f := writeRule _) (fun _ _ => .aside rfl rfl) _
  · exact Put.maps_store (f := writePoint _ _) (fun _ => .aside rfl rfl) _
  · exact Put.maps_store (f := writeZoneCfg _ _) (fun _ => .aside rfl rfl) _
  · refine Put.maps_of (fun c w => ?_) _
    rw [Work.st_map, writeSensor_scan]
    exact .aside rfl rfl
  · refine Put.maps_of (fun c w => ?_) _
    rw [Work.st_map, writeFan_eq]
    exact .aside rfl rfl
  · exact putPart_maps i e
  · exact Put.maps_refuse _

/-! ### The resets (R183 to R185) -/

theorem noSlots_eq : noSlots = Vector.ofFn fun _ => none := by decide

/-- After a full reset the part is unplaced with every slot by position, so no bay claims a slot (R157, R185). -/
theorem fullReset_maps (cause : ResetCause) (s : State) : Maps s (fullReset cause s) := by
  have claims : claim (fullReset cause s) = fun _ => none := by
    funext b
    have field : ((fullReset cause s).bayCfg b).slot = .byPosition := by
      simp [fullReset, State.bayCfg, defaultCfg, defaultBayCfg, Vector.get_eq_getElem]
    rw [claim, field]
    exact ite_self _
  refine ⟨⟨fun _ => ⟨?_, ?_⟩, fun _ => nofun⟩, rfl⟩
  · have none : resolvedSlot (fullReset cause s) = fun _ => none := by
      funext b
      rw [resolvedSlot, claims, ite_self]
    rw [none]
    exact noSlots_eq
  · have none : outranked (fullReset cause s) = fun _ => false := by
      funext b
      rw [outranked, claims]
      rfl
    rw [none]
    exact (by decide : false = allBays.any fun _ => false)

theorem resetTables_maps (s : State) : Maps s (resetTables s) := by
  have values : Maps (Work.start s).st ((Work.start s).map restoreAll).st := by
    obtain ⟨rest, -, -, -, -, -, -, loop⟩ := restoreAll_blocks s
    rw [Work.start_map, Work.st_start, Work.st_start, restoreAll_eq]
    rw [restoreAll_eq] at rest loop
    refine .remapped ?_ ?_
    · have window := congrArg State.window rest
      rwa [resolveMap_window] at window
    · have clock := congrArg LoopEngine.clock loop
      rwa [resolveMap_clock] at clock
  have bays : ∀ w, Maps w.st (restoreBays s w).st := fun w => by
    rw [restoreBays_eq]
    exact ((sweep_baysOnly (restoreOverride_edits s) _ _).trans (sweep_baysOnly (restorePolicy_edits s) _ _)).maps
  refine event_maps ?_
  rw [Work.st_owe]
  exact values.trans (bays _)

/-- The window is absent after a reset of LOOP scope (R184). -/
theorem resetLoop_maps (s : State) : Maps s (resetLoop s) :=
  ⟨⟨fun _ => resolveMap_mapResolved _, fun _ => by rw [resetLoop, WindowInBounds, resolveMap_window]; nofun⟩,
    resolveMap_clock _⟩

end Sys2Proof.Machine
end

section
/-! PROOFS. The messages, the loop, the tick and the commands keep the slot map resolved and the table window in its
table (R155, R157, R158, R174 to R180). -/

namespace Sys2Proof.Machine

open Sys2Proof.Safety

/-! ### The messages (chapter 8) -/

theorem maps_accept {s t : State} (h : Maps s t) : Maps s (accept t).st := h

theorem maps_of_eq {s t : State} (h : t = s) : Maps s t := h ▸ .refl t

theorem onNamedBay_maps {s : State} {k : BayIx → Answer} (h : ∀ b, Maps s (k b).st) (bay : Byte) :
    Maps s (onNamedBay bay s k).st := by
  unfold onNamedBay
  split
  · exact h _
  · exact .refl s

theorem onWindow_maps {k : State → BayIx → State} (h : ∀ s b, Maps s (k s b)) (start stop : Byte) (s : State) :
    Maps s (onWindow start stop s k).st := by
  unfold onWindow
  split
  · exact foldl_related Maps.refl (fun _ _ _ => Maps.trans) h _ s
  · exact .refl s

/-- A bay message that is accepted with the event of one bay, or refused. -/
theorem acceptEvent_maps {p : Prop} [Decidable p] {s : State} {f : Work → Work} (r : Result)
    (h : p → Maps (Work.start s).st (f (Work.start s)).st) :
    Maps s (if p then accept (event f s) else refuse r s).st := by
  split
  · exact event_maps (h ‹_›)
  · exact .refl s

theorem msgIntent_maps (i : MgmtIntent) (bay : Byte) (s : State) : Maps s (msgIntent i bay s).st := by
  refine onNamedBay_maps (fun b => ?_) bay
  rw [← ite_not]
  exact acceptEvent_maps _ fun _ => (setIntent_reseats i).maps

theorem msgExpedite_maps (bay : Byte) (s : State) : Maps s (msgExpedite bay s).st := by
  refine onNamedBay_maps (fun b => ?_) bay
  rw [← ite_not]
  exact acceptEvent_maps _ fun _ => (setExpedite_reseats.trans (setIntent_reseats .on)).maps

theorem msgCycle_maps (bay : Byte) (s : State) : Maps s (msgCycle bay s).st :=
  onNamedBay_maps (fun _ => acceptEvent_maps _ fun h => (cycleBay_reseats (not_queued_of_powered h)).maps) bay

theorem msgClear_maps (bay : Byte) (s : State) : Maps s (msgClear bay s).st :=
  onNamedBay_maps (fun _ => acceptEvent_maps _ fun h => (clearFault_reseats h).maps) bay

theorem msgBayPower_maps (bay action : Byte) (s : State) : Maps s (msgBayPower bay action s).st := by
  unfold msgBayPower
  split
  · exact msgIntent_maps _ _ s
  · exact msgExpedite_maps _ s
  · exact msgIntent_maps _ _ s
  · exact msgIntent_maps _ _ s
  · exact msgCycle_maps _ s
  · exact msgClear_maps _ s
  · exact .refl s

theorem msgBayReset_maps (bay : Byte) (s : State) : Maps s (msgBayReset bay s).st := by
  refine onNamedBay_maps (fun b => ?_) bay
  split
  · exact .aside rfl rfl
  · exact .refl s

/-- The class override is no part of a bay's claim (R31, R157). -/
theorem msgBayClass_maps (bay cls : Byte) (s : State) : Maps s (msgBayClass bay cls s).st := by
  refine onNamedBay_maps (fun b => ?_) bay
  split
  · exact .refl s
  · next o _ =>
    have written : Maps (Work.start s).st
        ((Work.start s).map fun s => s.setBayCfg b { s.bayCfg b with override := o }).st := .setBayCfg s rfl
    have classed : Maps s (event (classBay b o) s) :=
      event_maps (f := classBay b o) (written.trans (Edits.reresolve (b := b) _).maps)
    split
    · exact .refl s
    · exact .refl s
    · exact .refl s
    all_goals exact classed

theorem msgAttentionClear_maps (start stop kinds : Byte) (s : State) :
    Maps s (msgAttentionClear start stop kinds s).st := by
  unfold msgAttentionClear
  split
  · exact .refl s
  · refine onWindow_maps (fun t b => ?_) start stop s
    exact .aside rfl rfl

/-- Nor is the attention mask (R34, R157). -/
theorem msgAttentionMask_maps (start stop setMask clearMask : Byte) (s : State) :
    Maps s (msgAttentionMask start stop setMask clearMask s).st := by
  unfold msgAttentionMask
  split
  · refine onWindow_maps (fun t b => ?_) start stop s
    exact .setBayCfg t rfl
  · exact .refl s

theorem msgHold_maps (start stop : Byte) (h : Option (Fin 32)) (s : State) : Maps s (msgHold start stop h s).st := by
  refine onWindow_maps (fun t b => ?_) start stop s
  exact .aside rfl rfl

theorem msgIndicatorHold_maps (start stop code : Byte) (s : State) :
    Maps s (msgIndicatorHold start stop code s).st := by
  unfold msgIndicatorHold
  split
  · exact msgHold_maps start stop _ s
  · split
    · exact msgHold_maps start stop _ s
    · exact .refl s

theorem msgBlinkSync_maps (s : State) : Maps s (msgBlinkSync s).st := .aside rfl rfl

theorem msgDriveTemperature_maps (first : Byte) (v0 v1 v2 : BitVec 16) (s : State) :
    Maps s (msgDriveTemperature first v0 v1 v2 s).st :=
  onNamedBay_maps (fun _ => event_maps
    (f := fun w => takeReport (first.toNat + 2) v2 (takeReport (first.toNat + 1) v1 (takeReport first.toNat v0 w)))
    (((takeReport_maps _ v0 _).trans (takeReport_maps _ v1 _)).trans (takeReport_maps _ v2 _))) first

/-- A window that is not refused begins and ends in its table, its pointer at the start (R176). -/
theorem msgTableWindow_maps (table start stop : Byte) (s : State) : Maps s (msgTableWindow table start stop s).st := by
  unfold msgTableWindow
  split
  · exact .refl s
  · next inside =>
    refine ⟨⟨id, fun _ w hw => ?_⟩, rfl⟩
    obtain rfl := Option.some.inj hw
    dsimp only
    omega

/-- The pointer moves on within its window (R178, R180). -/
theorem maps_advance {s t : State} (h : Maps s t) {w : Window} (hw : s.window = some w) :
    Maps s { t with window := some w.advance } := by
  refine ⟨⟨h.resolved, fun hs v hv => ?_⟩, h.clock⟩
  obtain ⟨table, stop, start, pointer⟩ := hs w hw
  obtain rfl := Option.some.inj hv
  refine ⟨table, stop, ?_, ?_⟩
  · show w.start ≤ if w.pointer = w.stop then w.start else w.pointer + 1
    split <;> omega
  · show (if w.pointer = w.stop then w.start else w.pointer + 1) ≤ w.stop
    split <;> omega

theorem msgTablePut_maps (index : Byte) (entry : List Byte) (s : State) : Maps s (msgTablePut index entry s).st := by
  unfold msgTablePut
  split
  · exact .refl s
  · next w hw =>
    split
    · exact .refl s
    · split
      · exact .refl s
      · next clamped f hput => exact maps_advance (event_maps (putEntry_maps _ _ entry s clamped f hput _)) hw

theorem msgTableGet_maps (index : Byte) (s : State) : Maps s (msgTableGet index s).st := by
  unfold msgTableGet
  split
  · exact .refl s
  · next w hw =>
    split
    · exact .refl s
    · exact maps_advance (.refl s) hw

theorem msgCurveActivate_maps (zone : Byte) (s : State) : Maps s (msgCurveActivate zone s).st := by
  have copied : ∀ z, Maps s (activateCurve z s) := fun z => by
    unfold activateCurve
    generalize Vector.ofFn _ = curves
    exact .aside rfl rfl
  unfold msgCurveActivate
  split
  · exact .refl s
  · split
    · exact copied _
    · exact .refl s

theorem msgIdentify_maps (s : State) : Maps s (msgIdentify s).st := .aside rfl rfl

theorem msgResetLoop_maps (s : State) : Maps s (msgResetLoop s).st := maps_accept (resetLoop_maps s)

theorem msgResetTables_maps (s : State) : Maps s (msgResetTables s).st := maps_accept (resetTables_maps s)

theorem msgResetFull_maps (s : State) : Maps s (msgResetFull s).st := fullReset_maps .message s

theorem requestOf_maps (kind : Byte) (args : List Byte) (s : State) : Maps s ((requestOf kind args).2 s).st := by
  unfold requestOf
  dsimp only
  split
  · exact msgIdentify_maps s
  · exact maps_of_eq (msgBayRead_st s _)
  · exact msgBayPower_maps _ _ s
  · exact msgBayReset_maps _ s
  · exact msgBayClass_maps _ _ s
  · exact msgAttentionClear_maps _ _ _ s
  · exact msgAttentionMask_maps _ _ _ _ s
  · exact msgIndicatorHold_maps _ _ _ s
  · exact msgBlinkSync_maps s
  · exact msgDriveTemperature_maps _ _ _ _ s
  · exact msgTableWindow_maps _ _ _ s
  · exact msgTablePut_maps _ _ s
  · exact msgTableGet_maps _ s
  · exact msgCurveActivate_maps _ s
  · exact maps_of_eq (msgPowerRead_st s _)
  · exact maps_of_eq (msgQueueRead_st s _)
  · exact maps_of_eq (msgFanRead_st s _)
  · exact maps_of_eq (msgSensorRead_st s _)
  · exact maps_of_eq (msgZoneRead_st s _)
  · unfold partReset
    split
    · exact msgResetLoop_maps s
    · exact msgResetTables_maps s
    · exact msgResetFull_maps s
    · exact .refl s
  · exact .refl s

theorem deliver_maps {dst tag kind : Byte} {acts : Bool} {run : State → Answer} (h : ∀ s, Maps s (run s).st)
    (s : State) : Maps s (deliver dst tag kind acts run s) :=
  deliver_kept (P := Maps s) (fun _ ht => ht.trans (.aside rfl rfl)) (fun _ _ ht => ht.trans (.aside rfl rfl))
    (fun t ht => ht.trans (h t)) (.refl s)

/-! ### The frames and the symbols (chapter 7) -/

theorem handCell_maps (cell : List Byte) (s : State) : Maps s (handCell cell s) := deliver_maps (requestOf_maps _ _) s

/-- A changed position has the map resolved again (R155, R157). -/
theorem latchPosition_maps (flags hop : Byte) (s : State) : Maps s (latchPosition flags hop s) := by
  unfold latchPosition
  split
  · extract_lets p
    split
    · exact .refl s
    · exact .remapped rfl rfl
  · exact .refl s

theorem placedEnd_maps (s : State) : Maps s (placedEnd s) := by
  have released : Maps s (releaseReply s) := by
    unfold releaseReply
    split
    · exact .aside rfl rfl
    · exact .refl s
  have requested : ∀ t, Maps t (applyRequests t) := fun t =>
    event_maps (f := fun w => t.loop.frame.requests.foldl applyRequest w) (foldl_maps_work applyRequest_maps _ _)
  unfold placedEnd executeCell
  refine (released.trans (requested _)).trans ?_
  split
  · exact handCell_maps _ _
  · exact .refl _

theorem goodEnd_maps (s : State) : Maps s (goodEnd s) := by
  have latched : ∀ flags hop t, Maps t (latchPosition flags hop (restartTimer t)) := fun flags hop t =>
    Maps.trans (t := restartTimer t) (.aside rfl rfl) (latchPosition_maps flags hop _)
  have taken : Maps s { s with loop := { s.loop with frameEnd := none } } := .aside rfl rfl
  unfold goodEnd
  dsimp only
  refine taken.trans ?_
  split
  · split
    · exact placedEnd_maps _
    · exact (placedEnd_maps _).trans (latched _ _ _)
  · exact latched _ _ _

theorem takeFrameEnd_maps (s : State) : Maps s (takeFrameEnd s) := by
  unfold takeFrameEnd
  split
  · exact goodEnd_maps s
  · exact .aside rfl rfl
  · exact .refl s

/-- t is s after a received symbol: the receiver, the frame, the mark of its end, the mark of a placed reply and the
judgement of the incoming check are all that can differ. -/
def Receives (s t : State) : Prop :=
  t =
    { s with
      loop :=
        { s.loop with
          receiver := t.loop.receiver, frame := t.loop.frame, frameEnd := t.loop.frameEnd
          replyPlaced := t.loop.replyPlaced, tx := { s.loop.tx with good := t.loop.tx.good } } }

theorem Receives.trans {s t u : State} (h : Receives s t) (k : Receives t u) : Receives s u := by
  unfold Receives at *
  rw [k, h]

theorem Receives.maps {s t : State} (h : Receives s t) : Maps s t := by
  rw [h]
  exact .aside rfl rfl

theorem fixMap_receives (n : Nat) (s : State) : Receives s (if n = 19 then fixMap s else s) := by
  split <;> rfl

theorem captureRequest_receives (slot : Nat) (b : Byte) (s : State) : Receives s (captureRequest slot b s) := by
  unfold captureRequest
  split <;> rfl

theorem placeReply_receives (b : Byte) (s : State) : Receives s (placeReply b s) := by
  unfold placeReply
  split
  · split <;> rfl
  · rfl

theorem openCell_receives (b : Byte) (s : State) : Receives s (openCell b s) := by
  unfold openCell
  split
  · split <;> rfl
  · rfl

/-- By the place of the byte in the frame (R151, R157, R159, R162, R164). -/
theorem captureByte_receives (n : Nat) (b : Byte) (s : State) : Receives s (captureByte n b s) := by
  unfold captureByte
  dsimp only
  iterate 3
    split
    · rfl
  split
  · exact placeReply_receives b s
  split
  · rfl
  split
  · split
    · exact (fixMap_receives n s).trans (captureRequest_receives _ b _)
    · exact fixMap_receives n s
  split
  · exact openCell_receives b s
  split
  · rfl
  split <;> rfl

/-- By the receiver's table (R150). -/
theorem receive_receives (x : LoopSym) (s : State) : Receives s (receive x s).2 := by
  have counted : ∀ b, Receives s (frameByte b s).2 := fun b =>
    (captureByte_receives s.loop.frame.count b s).trans rfl
  unfold receive
  split
  · split <;> rfl
  · split
    · split
      · rfl
      · exact counted _
    · split <;> rfl
    all_goals rfl
  · split <;> rfl

theorem takeSymbol_maps (x : LoopSym) (s : State) : Maps s (takeSymbol x s) :=
  ((takeFrameEnd_maps s).trans (receive_receives x _).maps).trans (.aside rfl rfl)

theorem breakLoop_mapKept (s : State) : MapKept s (breakLoop s) := by
  unfold breakLoop
  dsimp only
  split <;> exact .aside rfl

/-! ### The tick (R1) -/

theorem completeTick_maps (s : State) : Maps s (completeTick s) := by
  refine completeTick_kept (P := Maps s) (fun t ht => ht.trans (takeFrameEnd_maps t)) ?_ ?_ (.refl s)
  · intro k hk t b ht _
    refine ht.trans ?_
    simp only [List.mem_cons, List.not_mem_nil, or_false] at hk
    rcases hk with rfl | rfl | rfl | rfl | rfl | rfl | rfl | rfl | rfl | rfl | rfl
    · exact takePresenceActive_maps b t
    · exact takePresenceLoss_maps b t
    · exact takePowerGoodSeen_maps b t
    · exact takePowerGoodLost_maps b t
    · exact takeSwitchFault_maps b t
    · exact takeStretch_maps b t
    · exact takeEdge_maps b t
    · exact takeSurgeDeadline_maps b t
    · exact takePgDeadline_maps b t
    · exact takeResetHold_maps b t
    · exact takeStale_maps b t
  · intro k hk t ht
    refine ht.trans ?_
    simp only [List.mem_cons, List.not_mem_nil, or_false] at hk
    rcases hk with rfl | rfl | rfl | rfl | rfl | rfl
    · exact takeExpiries_maps t
    · exact takeBoundary_maps t
    · exact takeCooling_maps t
    · exact takeConversion_maps t
    · exact .aside rfl rfl
    · exact .aside rfl rfl

theorem tick_maps (pins : Pins) (l : LightsOrder) (s : State) : Maps s (tick pins l s) := by
  have counted : ∀ t, Maps t (countTick pins t) := fun _ =>
    .aside (by unfold countTick State.mapView State.bayCfg; dsimp only) rfl
  have lit : ∀ l t, Maps t (tickLights l t) := fun l t => by cases l <;> exact .aside rfl rfl
  unfold tick
  exact (completeTick_maps s).trans ((counted _).trans (lit _ _))

/-! ### The commands -/

theorem execResetTriggerEnd_maps {trigger : ResetTrigger} {s t : State} (h : execResetTriggerEnd trigger s = .next t) :
    Maps s t := by
  have ended : ∀ u : State, Maps s u → ∀ c,
      (if u.inReset = true then .next u else .next (fullReset c u) : Out) = .next t → Maps s t := by
    intro u hu c h
    split at h <;> cases h
    · exact hu
    · exact hu.trans (fullReset_maps c u)
  unfold execResetTriggerEnd at h
  split at h
  · cases trigger with
    | powerOn => exact ended { s with rst := { s.rst with powerOn := false } } (.aside rfl rfl) _ h
    | pin => exact ended { s with rst := { s.rst with pin := false } } (.aside rfl rfl) _ h
  · cases h
    exact .refl s

section Rows

variable {s t : State}

/-- A message row (R162; log 12). -/
theorem messageRow_mapKept {dst tag kind : Byte} {acts : Bool} {run : State → Answer} (h : ∀ s, Maps s (run s).st)
    (ht : live s (deliver dst tag kind acts run) = .next t) : MapKept s t :=
  (live_kept (P := Maps s) (fun u hu => hu.trans (deliver_maps h u)) (.refl s) ht).toMapKept

/-- A command of the part as a whole, taken where it is due. -/
theorem liveRow_mapKept {due : State → Prop} [DecidablePred due] {k : State → State} (hk : ∀ s, Maps s (k s))
    (h : live s (fun s => if due s then k s else s) = .next t) : MapKept s t := by
  refine (live_kept (P := Maps s) (fun u hu => ?_) (.refl s) h).toMapKept
  split
  · exact hu.trans (hk u)
  · exact hu

/-- A row of a bay line. -/
theorem bayRow_mapKept {k : BayIx → State → State} (hk : ∀ b s, Maps s (k b s)) {n : Nat} (h : onBay n s k = .next t) :
    MapKept s t :=
  (onBay_kept (P := Maps s) (fun b u hu _ => hu.trans (hk b u)) (.refl s) h).toMapKept

/-- The row of an expiry takes the expiries of the tick where its own is due. -/
theorem expiryRow_mapKept {due : State → BayIx → Bool} {n : Nat}
    (h : onBay n s (fun b s => if due s b = true then takeExpiries s else s) = .next t) : MapKept s t := by
  refine bayRow_mapKept (fun b u => ?_) h
  split
  · exact takeExpiries_maps u
  · exact .refl u

/-- Every command keeps the map resolved and the window in its table, row by row. -/
theorem exec_mapKept {c : Instr} (h : exec c s = .next t) : MapKept s t := by
  cases c with
  | timebaseTick pins l =>
    change execTimebaseTick pins l s = _ at h
    unfold execTimebaseTick at h
    split at h <;> rw [← Host.Outcome.next.inj h]
    · exact .aside rfl
    · exact (tick_maps pins l s).toMapKept
  | presenceActive => exact bayRow_mapKept takePresenceActive_maps h
  | presenceLoss => exact bayRow_mapKept takePresenceLoss_maps h
  | powerGoodSeen => exact bayRow_mapKept takePowerGoodSeen_maps h
  | powerGoodLost => exact bayRow_mapKept takePowerGoodLost_maps h
  | switchFault => exact bayRow_mapKept takeSwitchFault_maps h
  | driveActivityEdge => exact bayRow_mapKept takeEdge_maps h
  | tachPulse =>
    exact (onFan_kept (P := Maps s) (k := countTach) (fun f u hu => hu.trans (.aside rfl rfl)) (.refl s) h).toMapKept
  | debounceExpiry => exact expiryRow_mapKept h
  | drainExpiry => exact expiryRow_mapKept h
  | surgeDeadline => exact bayRow_mapKept takeSurgeDeadline_maps h
  | powerGoodDeadline => exact bayRow_mapKept takePgDeadline_maps h
  | resetHoldExpiry => exact bayRow_mapKept takeResetHold_maps h
  | staggerBoundary => exact liveRow_mapKept (due := fun s => boundaryDue s = true) takeBoundary_maps h
  | coolingUpdate => exact liveRow_mapKept (due := fun s => coolingDue s = true) takeCooling_maps h
  | conversionEnd => exact liveRow_mapKept (due := fun s => s.scan.slotDue = true) takeConversion_maps h
  | temperatureStale => exact bayRow_mapKept takeStale_maps h
  | loopTimerExpiry =>
    exact liveRow_mapKept (due := fun s => loopTimerDue s = true) (k := takeLoopTimer) (fun _ => .aside rfl rfl) h
  | activityStretchExpiry => exact bayRow_mapKept takeStretch_maps h
  | loopSymbol bits =>
    change execLoopSymbol bits s = _ at h
    unfold execLoopSymbol at h
    split at h
    · cases h
      exact .aside rfl
    · split at h <;> cases h
      · exact .aside rfl
      · exact (takeSymbol_maps _ s).toMapKept
  | goodFrameEnd => exact liveRow_mapKept (due := fun s => s.loop.frameEnd = some true) goodEnd_maps h
  | badCheckFrameEnd =>
    exact liveRow_mapKept (due := fun s => s.loop.frameEnd = some false) (k := badEnd) (fun _ => .aside rfl rfl) h
  | loopBreak =>
    change execLoopBreak s = _ at h
    unfold execLoopBreak at h
    split at h <;> cases h
    · exact .aside rfl
    · exact (takeFrameEnd_maps s).toMapKept.trans (breakLoop_mapKept _)
  | loopClockReturn =>
    change execLoopClockReturn s = _ at h
    unfold execLoopClockReturn at h
    split at h <;> cases h <;> exact .aside rfl
  | identify => exact messageRow_mapKept msgIdentify_maps h
  | bayRead => exact messageRow_mapKept (fun u => maps_of_eq (msgBayRead_st u _)) h
  | bayPowerOn => exact messageRow_mapKept (msgIntent_maps _ _) h
  | bayPowerExpedite => exact messageRow_mapKept (msgExpedite_maps _) h
  | bayPowerOff => exact messageRow_mapKept (msgIntent_maps _ _) h
  | bayPowerRelease => exact messageRow_mapKept (msgIntent_maps _ _) h
  | bayPowerCycle => exact messageRow_mapKept (msgCycle_maps _) h
  | bayPowerClear => exact messageRow_mapKept (msgClear_maps _) h
  | bayReset => exact messageRow_mapKept (msgBayReset_maps _) h
  | bayClass => exact messageRow_mapKept (msgBayClass_maps _ _) h
  | attentionClear => exact messageRow_mapKept (msgAttentionClear_maps _ _ _) h
  | attentionMask => exact messageRow_mapKept (msgAttentionMask_maps _ _ _ _) h
  | indicatorHold => exact messageRow_mapKept (msgIndicatorHold_maps _ _ _) h
  | indicatorHoldRelease => exact messageRow_mapKept (msgHold_maps _ _ _) h
  | blinkSync => exact messageRow_mapKept msgBlinkSync_maps h
  | driveTemperature => exact messageRow_mapKept (msgDriveTemperature_maps _ _ _ _) h
  | tableWindow => exact messageRow_mapKept (msgTableWindow_maps _ _ _) h
  | tablePut => exact messageRow_mapKept (msgTablePut_maps _ _) h
  | tableGet => exact messageRow_mapKept (msgTableGet_maps _) h
  | curveActivate => exact messageRow_mapKept (msgCurveActivate_maps _) h
  | powerRead => exact messageRow_mapKept (fun u => maps_of_eq (msgPowerRead_st u _)) h
  | queueRead => exact messageRow_mapKept (fun u => maps_of_eq (msgQueueRead_st u _)) h
  | fanRead => exact messageRow_mapKept (fun u => maps_of_eq (msgFanRead_st u _)) h
  | sensorRead => exact messageRow_mapKept (fun u => maps_of_eq (msgSensorRead_st u _)) h
  | zoneRead => exact messageRow_mapKept (fun u => maps_of_eq (msgZoneRead_st u _)) h
  | partResetLoop => exact messageRow_mapKept msgResetLoop_maps h
  | partResetTables => exact messageRow_mapKept msgResetTables_maps h
  | partResetFull => exact messageRow_mapKept msgResetFull_maps h
  | powerOnReset =>
    cases h
    exact .aside rfl
  | resetPin =>
    cases h
    exact .aside rfl
  | resetTriggerEnd => exact (execResetTriggerEnd_maps h).toMapKept

theorem step_mapKept (h : step s = .next t) : MapKept s t :=
  step_kept (P := MapKept s) (fun _ _ hu => hu.trans (.aside rfl)) (fun _ _ _ hu hc => hu.trans (exec_mapKept hc))
    (.aside rfl) h

end Rows

/-! ### What a resolved map holds (R157, R158) -/

theorem outranked_iff (s : State) (b : BayIx) :
    outranked s b = true ↔ claim s b ≠ none ∧ ∃ c : BayIx, c < b ∧ claim s c = claim s b := by
  simp [outranked, List.any_eq_true, mem_allBays, Option.isSome_iff_ne_none]

/-- The lowest-numbered claimant owns a slot (R157). -/
theorem resolvedSlot_eq (s : State) (b : BayIx) :
    resolvedSlot s b = if ∃ c : BayIx, c < b ∧ claim s c = claim s b then none else claim s b := by
  rw [resolvedSlot]
  by_cases hb : claim s b = none
  · rw [hb, ite_self, ite_self]
  · exact if_congr ((outranked_iff s b).trans (and_iff_right hb)) rfl rfl

theorem mapConflict_iff {s : State} (h : MapResolved s) :
    s.loop.mapConflict = true ↔ ∃ b c : BayIx, c < b ∧ claim s b ≠ none ∧ claim s c = claim s b := by
  rw [h.2, List.any_eq_true]
  simp only [outranked_iff]
  exact ⟨fun ⟨b, _, hb, c, hc, he⟩ => ⟨b, c, hc, hb, he⟩, fun ⟨b, c, hc, hb, he⟩ => ⟨b, mem_allBays b, hb, c, hc, he⟩⟩

/-- No two bays own one slot: the lower-numbered of them outranks the other (R157). -/
theorem owner_unique {s : State} (h : MapResolved s) {b c : BayIx} {k : Nat} (hb : s.loop.slotMap.get b = some k)
    (hc : s.loop.slotMap.get c = some k) : b = c := by
  have owns : ∀ d, s.loop.slotMap.get d = some k → claim s d = some k ∧ ∀ e, e < d → claim s e ≠ some k := by
    intro d hd
    rw [h.1, Vector.get_ofFn, resolvedSlot_eq] at hd
    split at hd
    · cases hd
    · next first => exact ⟨hd, fun e he hk => first ⟨e, he, hk.trans hd.symm⟩⟩
  obtain ⟨claimsB, firstB⟩ := owns b hb
  obtain ⟨claimsC, firstC⟩ := owns c hc
  exact le_antisymm (not_lt.mp fun hlt => firstB c hlt claimsC) (not_lt.mp fun hlt => firstC b hlt claimsB)

theorem claim_eq (s : State) (b : BayIx) :
    claim s b =
      if b.val < s.rst.straps.bayCount then
        (match (s.bayCfg b).slot, s.loop.position with
        | .slot k, _ => some k
        | .unmapped, _ => none
        | .byPosition, some p => some (p.val * 24 + b.val)
        | .byPosition, none => none)
      else none := by
  simp only [claim, State.populated, decide_eq_true_eq]
  refine if_congr .rfl ?_ rfl
  cases (s.bayCfg b).slot with
  | slot | unmapped => rfl
  | byPosition => cases h : s.loop.position <;> simp [fieldSlot, h]

/-- Settles O59: what touches a claim resolves the map again, what sets or moves the window keeps it in its table, and
the rest leaves both aside. -/
theorem mapAndWindowKept : Obligations.MapAndWindowKept := by
  refine ⟨fun s t hs h => (step_mapKept h).resolved hs, fun s t hs h => (step_mapKept h).window hs,
    fun s b c k hs hb hc => owner_unique hs hb hc, fun s hs => ?_⟩
  intro claims
  have same : claims = claim s := funext fun b => (claim_eq s b).symm
  rw [same]
  exact ⟨fun b => by rw [hs.1, Vector.get_ofFn, resolvedSlot_eq], mapConflict_iff hs⟩

end Sys2Proof.Machine
end

section
/-! PROOFS. Requests that the part does not take (R156, R162, R170). -/

namespace Sys2Proof.Machine

open Sys2Proof.Safety

/-- A message row hands its request over as one that acts, or does not, when broadcast (R170; log 12). -/
theorem exec_message {c : Instr} {d : Byte} (h : destination c = some d) :
    ∃ tag kind run, ∀ s, exec c s = live s (deliver d tag kind (actsWhenBroadcast c) run) := by
  cases c <;> cases h <;> exact ⟨_, _, _, fun _ => rfl⟩

/-- Settles O6: each clause is one of the ways in which `deliver` executes nothing. -/
theorem requestsNotTaken : Obligations.RequestsNotTaken := by
  intro c d s hd hr
  obtain ⟨tag, kind, run, hrow⟩ := exec_message hd
  have row := (hrow s).trans (live_next hr _)
  refine ⟨fun unplaced => ?_, fun notAll other => ?_, fun toAll ignored => ?_, fun addressed held => ?_⟩
  · rw [row, deliver_unplaced unplaced]
  · rw [row, deliver_other notAll other]
  · subst toAll
    rw [row, ignored]
    by_cases placed : s.loop.position = none
    · rw [deliver_unplaced placed]
    · rw [deliver_broadcast (Option.isSome_iff_ne_none.mpr placed), if_neg Bool.false_ne_true]
  · rw [row, deliver_overrun addressed held]

end Sys2Proof.Machine
end

section
/-! PROOFS. The ends of frames and the events of the loop clock and timer (R149, R152, R155, R160, R163, R166, R185). -/

namespace Sys2Proof.Machine

open Sys2Proof.Safety

/-! ### A frame end that waits (log 11) -/

theorem takeFrameEnd_none {s : State} (h : s.loop.frameEnd = none) : takeFrameEnd s = s := by
  rw [takeFrameEnd, h]

theorem takeFrameEnd_good {s : State} (h : s.loop.frameEnd = some true) : takeFrameEnd s = goodEnd s := by
  rw [takeFrameEnd, h]

theorem takeFrameEnd_bad {s : State} (h : s.loop.frameEnd = some false) : takeFrameEnd s = badEnd s := by
  rw [takeFrameEnd, h]

theorem exec_goodFrameEnd {s : State} (hr : s.inReset = false) (h : s.loop.frameEnd = some true) :
    exec .goodFrameEnd s = .next (goodEnd s) :=
  (live_next hr _).trans (by rw [if_pos h])

theorem exec_badCheckFrameEnd {s : State} (hr : s.inReset = false) (h : s.loop.frameEnd = some false) :
    exec .badCheckFrameEnd s = .next (badEnd s) :=
  (live_next hr _).trans (by rw [if_pos h])

/-- The row of a waiting frame end takes it as a symbol, a break or a tick would. -/
theorem exec_frameEnd {s : State} {good : Bool} (hr : s.inReset = false) (h : s.loop.frameEnd = some good) :
    exec (if good then .goodFrameEnd else .badCheckFrameEnd) s = .next (takeFrameEnd s) := by
  cases good with
  | true => rw [if_pos rfl, exec_goodFrameEnd hr h, takeFrameEnd_good h]
  | false => rw [if_neg Bool.false_ne_true, exec_badCheckFrameEnd hr h, takeFrameEnd_bad h]

/-- An event that takes a waiting frame end first does as that end's own row and then the event itself. -/
theorem frameEnd_first {c : Instr} {k : State → State} {s : State} {good : Bool} (hr : s.inReset = false)
    (h : s.loop.frameEnd = some good) (hs : exec c s = .next (k (takeFrameEnd s)))
    (hc : exec c (takeFrameEnd s) = .next (k (takeFrameEnd (takeFrameEnd s)))) :
    ∃ u t, exec (if good then .goodFrameEnd else .badCheckFrameEnd) s = .next u ∧ u.inReset = false ∧
      u.loop.clock = s.loop.clock ∧ u.loop.frameEnd = none ∧ exec c u = .next t ∧ exec c s = .next t := by
  obtain ⟨released, taken⟩ := takeFrameEnd_frameTaken hr
  exact ⟨takeFrameEnd s, _, exec_frameEnd hr h, released, (takeFrameEnd_maps s).clock, taken,
    by rw [hc, takeFrameEnd_none taken], hs⟩

theorem exec_loopSymbol {s : State} (hr : s.inReset = false) (hc : s.loop.clock = true) (bits : BitVec 9) :
    exec (.loopSymbol bits) s = .next (takeSymbol (decodeSymbol bits) s) := by
  show execLoopSymbol bits s = _
  rw [execLoopSymbol, hc, hr]
  rfl

theorem exec_loopBreak {s : State} (hr : s.inReset = false) :
    exec .loopBreak s = .next (breakLoop (takeFrameEnd s)) := by
  show execLoopBreak s = _
  rw [execLoopBreak, hr]
  rfl

theorem breakLoop_eq (s : State) :
    breakLoop s =
      { s with
        loop :=
          { s.loop with
            receiver := .discard, clock := false
            frame := if s.loop.receiver = .inFrame then emptyFrame else s.loop.frame
            tx := { s.loop.tx with first := .sym .idle, second := .sym .idle } } } := by
  unfold breakLoop
  split
  · rfl
  · rfl

/-- Settles O36. -/
theorem loopEventsComplete : Obligations.LoopEventsComplete := by
  intro s hr
  refine ⟨exec_badCheckFrameEnd hr, fun none => ?_, fun good waits => ?_, fun stopped => ?_, fun out notLost => ?_⟩
  · rw [exec_loopBreak hr, takeFrameEnd_none none, breakLoop_eq]
  · obtain ⟨released, -⟩ := takeFrameEnd_frameTaken hr
    obtain ⟨u, t, hu, hur, -, hun, ht, hs⟩ :=
      frameEnd_first (c := .loopBreak) (k := breakLoop) hr waits (exec_loopBreak hr) (exec_loopBreak released)
    exact ⟨u, t, hu, hur, hun, ht, hs⟩
  · show execLoopClockReturn s = _
    rw [execLoopClockReturn, stopped]
    rfl
  · exact (live_next hr _).trans (by rw [if_pos ((loopTimerDue_iff s).mpr ⟨out, notLost⟩)]; rfl)

/-! ### The steps of a good frame end (R160) -/

/-- Step 1 where a reply is placed and where none is (R165). -/
theorem releaseReply_eq (s : State) :
    releaseReply s =
      { s with
        loop := { s.loop with reply := if s.loop.replyPlaced then none else s.loop.reply, replyPlaced := false } } := by
  unfold releaseReply
  cases h : s.loop.replyPlaced with
  | true => rfl
  | false => rw [if_neg Bool.false_ne_true, if_neg Bool.false_ne_true, ← h]

theorem executeCell_some {s : State} {c : List Byte} (h : s.loop.frame.cell = some c) :
    executeCell s = handCell c s := by
  rw [executeCell, h]

theorem executeCell_none {s : State} (h : s.loop.frame.cell = none) : executeCell s = s := by
  rw [executeCell, h]

theorem fullResetTaken_eq (s : State) :
    fullResetTaken s = true ↔ ∃ c, s.loop.frame.cell = some c ∧ takesFullReset c s = true := by
  unfold fullResetTaken
  cases s.loop.frame.cell <;> simp

/-- A PART RESET of FULL scope that the part takes leaves the state right after the reset, and no reply (R182, R185). -/
theorem handCell_fullReset {c : List Byte} {s : State} (h : takesFullReset c s = true) :
    handCell c s = fullReset .message s := by
  unfold takesFullReset at h
  split at h
  · next p hp =>
    simp only [Bool.and_eq_true, Bool.not_eq_true', decide_eq_true_eq] at h
    obtain ⟨⟨⟨hdst, hreply⟩, hkind⟩, hscope⟩ := h
    have request : requestOf (c.getD 1 0#8) (c.drop 3) = (false, msgResetFull) := by
      have scope : (c.drop 3).getD 0 0#8 = 2#8 := by
        rw [← hscope]
        simp [List.getD_eq_getElem?_getD]
      rw [hkind]
      show partReset ((c.drop 3).getD 0 0#8) = _
      rw [scope]
      rfl
    have addressed : s.loop.position.map (·.val) = some (c.getD 0 0#8).toNat := by rw [hp, hdst]; rfl
    obtain ⟨notAll, -⟩ := position_ne_broadcast hp addressed
    rw [handCell, request, deliver, hp]
    dsimp only
    rw [if_neg notAll, if_pos hdst, hreply]
    rfl
  · cases h

/-- Steps 4 and 5 (R155, R166). -/
theorem latchPosition_eq (flags hop : Byte) (s : State) :
    let p : Option (Fin 8) := if h : hop.toNat < 8 then some ⟨hop.toNat, h⟩ else none
    latchPosition flags hop s =
      if flags.getLsbD 7 = true ∧ s.loop.position ≠ p then resolveMap { s with loop := { s.loop with position := p } }
      else s := by
  intro p
  by_cases training : flags.getLsbD 7 = true
  · by_cases same : s.loop.position = p
    · exact (if_pos training).trans ((if_pos same).trans (if_neg fun both => both.2 same).symm)
    · exact (if_pos training).trans ((if_neg same).trans (if_pos ⟨training, same⟩).symm)
  · exact (if_neg training).trans (if_neg fun both => training both.1).symm

/-- The part after steps 1 and 2, the frame end being taken. -/
def requested (s : State) : State :=
  applyRequests
    { s with
      loop :=
        { s.loop with
          frameEnd := none, reply := if s.loop.replyPlaced then none else s.loop.reply, replyPlaced := false } }

theorem requested_frame (s : State) : (requested s).loop.frame = s.loop.frame := by
  rw [requested, (applyRequests_loop_rst _).1]

/-- The five steps at a placed part, unless it takes a full reset at step 3 (R160, R185). -/
theorem goodEnd_placed {s : State} (h : s.loop.position.isSome = true) :
    goodEnd s =
      if fullResetTaken (requested s) = true then executeCell (requested s)
      else latchPosition s.loop.frame.flags s.loop.frame.hop (restartTimer (executeCell (requested s))) := by
  have steps : applyRequests (releaseReply { s with loop := { s.loop with frameEnd := none } }) = requested s := by
    rw [releaseReply_eq]
    rfl
  unfold goodEnd placedEnd
  dsimp only
  rw [steps]
  exact if_pos h

/-- The last two steps alone at an unplaced part (R160). -/
theorem goodEnd_unplaced {s : State} (h : s.loop.position = none) :
    goodEnd s =
      latchPosition s.loop.frame.flags s.loop.frame.hop
        (restartTimer { s with loop := { s.loop with frameEnd := none } }) :=
  if_neg (by simp [State.placed, h])

/-- Settles O33: the steps as `goodEnd` takes them, at an unplaced part, and at a placed one with and without a request
cell. -/
theorem goodFrameEndCompletes : Obligations.GoodFrameEndCompletes := by
  intro s hr due a h u p
  rw [exec_goodFrameEnd hr due]
  cases hp : s.loop.position with
  | none =>
    have ha : a = { s with loop := { s.loop with frameEnd := none } } := by
      simp only [a, hp]
      rfl
    have hh : h = a := by
      simp only [h, hp]
      cases s.loop.frame.cell <;> rfl
    refine ⟨fun _ => congrArg _ ?_, nofun⟩
    rw [goodEnd_unplaced hp, latchPosition_eq, ← ha, ← hh]
    rfl
  | some q =>
    have placed : s.loop.position.isSome = true := by rw [hp]; rfl
    have ha : a = requested s := if_pos placed
    have frame : a.loop.frame = s.loop.frame := by rw [ha, requested_frame]
    have cell : a.loop.frame.cell = s.loop.frame.cell := by rw [frame]
    have hh : h = executeCell a := by
      cases hc : s.loop.frame.cell with
      | none =>
        rw [executeCell_none (cell.trans hc)]
        simp only [h, hc]
      | some c =>
        rw [executeCell_some (cell.trans hc)]
        simp only [h, hc, placed, if_true]
    rw [goodEnd_placed placed, ← ha, ← hh]
    refine ⟨fun none => congrArg _ ?_, fun c _ hc taken => congrArg _ ?_⟩
    · have stays : fullResetTaken a ≠ true := by
        rw [ne_eq, fullResetTaken_eq, cell]
        rintro ⟨c, hc, taken⟩
        rcases none with none | none
        · cases none
        · exact Bool.false_ne_true ((none c hc).symm.trans taken)
      rw [if_neg stays, latchPosition_eq]
      rfl
    · rw [if_pos ((fullResetTaken_eq a).mpr ⟨c, cell.trans hc, taken⟩), hh, executeCell_some (cell.trans hc),
        handCell_fullReset taken]

end Sys2Proof.Machine
end

section
/-! PROOFS. What a symbol leaves alone, what is sent at its time, and the receiver's table (R148, R150, R152, R153,
R159). -/

namespace Sys2Proof.Machine

open Sys2Proof.Safety

/-! ### What a symbol leaves alone -/

theorem Receives.statusByte {s t : State} (h : Receives s t) (b : BayIx) : t.statusByte b = s.statusByte b := by
  rw [h]
  rfl

/-- What an item is sent as at the end of a symbol: the records stand as before it, and the incoming check as judged. -/
theorem Receives.itemSymbol_eq {s u : State} (h : Receives s u) (item : TxItem) :
    let check := if u.loop.tx.good then s.loop.tx.crc else ~~~s.loop.tx.crc
    Machine.itemSymbol u item =
      match item with
      | .sym x => x
      | .status b => .data (s.statusByte b)
      | .checkHigh => .data (highByte check)
      | .checkLow => .data (lowByte check) := by
  have crc : u.loop.tx.crc = s.loop.tx.crc := by rw [h]
  intro check
  have own : ownCheck u.loop.tx = check := by rw [ownCheck, crc]
  cases item with
  | sym => rfl
  | status b => rw [Machine.itemSymbol, h.statusByte]
  | checkHigh => rw [Machine.itemSymbol, own]
  | checkLow => rw [Machine.itemSymbol, own]

/-- The oldest item is sent as it stood before a symbol that judges no check (R148, R153, R159). -/
theorem Receives.itemSymbol {s u : State} (h : Receives s u) (good : u.loop.tx.good = s.loop.tx.good) (item : TxItem) :
    Machine.itemSymbol u item = Machine.itemSymbol s item := by
  have same : Receives s s := rfl
  rw [h.itemSymbol_eq, same.itemSymbol_eq, good]

/-- A symbol of a running clock with no earlier frame end to take. -/
theorem exec_symbol {s : State} (hr : s.inReset = false) (hc : s.loop.clock = true) (hf : s.loop.frameEnd = none)
    (bits : BitVec 9) :
    exec (.loopSymbol bits) s =
      .next (shift (receive (decodeSymbol bits) s).1 (receive (decodeSymbol bits) s).2) := by
  rw [exec_loopSymbol hr hc, takeSymbol, takeFrameEnd_none hf]

/-! ### The receiver's table (R150) -/

/-- s with the receiver, the frame, the mark of its end and the mark of a placed reply as given. -/
def received (s : State) (r : Receiver) (f : Frame) (ended : Option Bool) (placed : Bool) : State :=
  { s with loop := { s.loop with receiver := r, frame := f, frameEnd := ended, replyPlaced := placed } }

/-- A symbol that is passed over. -/
theorem received_self {s : State} {r : Receiver} (h : s.loop.receiver = r) (hf : s.loop.frameEnd = none) :
    received s r s.loop.frame none s.loop.replyPlaced = s := by
  rw [received, ← h, ← hf]

theorem atLength_iff (f : Frame) :
    (f.lengthKnown && decide (f.count = f.length)) = true ↔ 3 ≤ f.count ∧ f.count = 36 + 2 * f.slots.toNat := by
  rw [Bool.and_eq_true, decide_eq_true_iff, Frame.lengthKnown, decide_eq_true_iff, Frame.length]

theorem pastLength_iff (f : Frame) :
    (f.lengthKnown && decide (f.length ≤ f.count)) = true ↔ 3 ≤ f.count ∧ 36 + 2 * f.slots.toNat ≤ f.count := by
  rw [Bool.and_eq_true, decide_eq_true_iff, Frame.lengthKnown, decide_eq_true_iff, Frame.length]

section Table

variable {s : State}

theorem receive_between_start (h : s.loop.receiver = .between) (hf : s.loop.frameEnd = none) :
    receive .frameStart s = (.sym .frameStart, received s .inFrame emptyFrame none false) := by
  simp only [receive, h, beginFrame, received, hf]

theorem receive_between_other {x : LoopSym} (h : s.loop.receiver = .between) (hf : s.loop.frameEnd = none)
    (hx : x ≠ .frameStart) : receive x s = (.sym .idle, received s .between s.loop.frame none s.loop.replyPlaced) := by
  rw [received_self h hf, receive.eq_def, h]
  cases x with
  | frameStart => exact absurd rfl hx
  | data | frameEnd | frameAbort | idle => rfl

theorem receive_discard_idle (h : s.loop.receiver = .discard) (hf : s.loop.frameEnd = none) :
    receive .idle s = (.sym .idle, received s .between s.loop.frame none s.loop.replyPlaced) := by
  rw [receive, h, received, ← hf]

theorem receive_discard_other {x : LoopSym} (h : s.loop.receiver = .discard) (hf : s.loop.frameEnd = none)
    (hx : x ≠ .idle) : receive x s = (.sym .idle, received s .discard s.loop.frame none s.loop.replyPlaced) := by
  rw [received_self h hf, receive.eq_def, h]
  cases x with
  | idle => exact absurd rfl hx
  | data | frameStart | frameEnd | frameAbort => rfl

/-- A frame is abandoned (R152). -/
theorem abandon_eq (next : Receiver) (hf : s.loop.frameEnd = none) :
    abandon next s = received s next emptyFrame none s.loop.replyPlaced := by
  rw [abandon, received, ← hf]

section InFrame

variable (h : s.loop.receiver = .inFrame)

include h

theorem receive_frameEnd_atEnd (len : 3 ≤ s.loop.frame.count ∧ s.loop.frame.count = 36 + 2 * s.loop.frame.slots.toNat) :
    receive .frameEnd s =
      (.sym .frameEnd, received s .between s.loop.frame (some s.loop.tx.good) s.loop.replyPlaced) := by
  rw [receive, h]
  exact if_pos ((atLength_iff _).mpr len)

variable (hf : s.loop.frameEnd = none)

include hf

theorem receive_frameEnd_elsewhere
    (len : ¬(3 ≤ s.loop.frame.count ∧ s.loop.frame.count = 36 + 2 * s.loop.frame.slots.toNat)) :
    receive .frameEnd s = (.sym .frameAbort, received s .between emptyFrame none s.loop.replyPlaced) := by
  rw [← abandon_eq .between hf, receive, h]
  exact if_neg (mt (atLength_iff _).mp len)

theorem receive_abort_idle {x : LoopSym} (hx : x = .frameAbort ∨ x = .idle) :
    receive x s = (.sym .frameAbort, received s .between emptyFrame none s.loop.replyPlaced) := by
  rw [← abandon_eq .between hf, receive.eq_def, h]
  rcases hx with rfl | rfl <;> rfl

theorem receive_inFrame_start :
    receive .frameStart s = (.sym .frameAbort, received s .discard emptyFrame none s.loop.replyPlaced) := by
  rw [← abandon_eq .discard hf, receive, h]

theorem receive_data_beyond (b : Byte) (known : 3 ≤ s.loop.frame.count)
    (len : 36 + 2 * s.loop.frame.slots.toNat ≤ s.loop.frame.count) :
    receive (.data b) s = (.sym .frameAbort, received s .discard emptyFrame none s.loop.replyPlaced) := by
  rw [← abandon_eq .discard hf, receive, h]
  exact if_pos ((pastLength_iff _).mpr ⟨known, len⟩)

omit hf

theorem receive_data_within (b : Byte)
    (len : s.loop.frame.count < 3 ∨ s.loop.frame.count < 36 + 2 * s.loop.frame.slots.toNat) :
    receive (.data b) s = frameByte b s := by
  rw [receive, h]
  refine if_neg fun past => ?_
  have := (pastLength_iff _).mp past
  omega

end InFrame

end Table

/-- What a row of the receiver's table comes to: the oldest item is sent, and the row's symbol enters the delay line. -/
theorem exec_received {s : State} {bits : BitVec 9} {y : LoopSym} {r : Receiver} {f : Frame} {ended : Option Bool}
    {placed : Bool} (hr : s.inReset = false) (hc : s.loop.clock = true) (hf : s.loop.frameEnd = none)
    (h : receive (decodeSymbol bits) s = (.sym y, received s r f ended placed)) :
    exec (.loopSymbol bits) s = .next
      { s with
        loop :=
          { s.loop with
            receiver := r, frame := f, frameEnd := ended, replyPlaced := placed
            sent := itemSymbol s s.loop.tx.first
            tx :=
              { s.loop.tx with
                first := s.loop.tx.second, second := .sym y
                crc := sentCrc s.loop.tx.crc s.loop.tx.first (itemSymbol s s.loop.tx.first) } } } := by
  have kept : Receives s (received s r f ended placed) := rfl
  rw [exec_symbol hr hc hf, h, ← kept.itemSymbol rfl]
  rfl

/-! ### Symbols (R148) -/

theorem decodeSymbol_data {bits : BitVec 9} (h : bits.getLsbD 8 = false) :
    decodeSymbol bits = .data (bits.setWidth 8) := by
  rw [decodeSymbol, h]
  rfl

theorem decodeSymbol_control {bits : BitVec 9} (h : bits.getLsbD 8 = true) :
    decodeSymbol bits =
      if bits.setWidth 8 = 0xF1#8 then .frameStart
      else if bits.setWidth 8 = 0xF2#8 then .frameEnd
      else if bits.setWidth 8 = 0xF4#8 then .frameAbort
      else .idle := by
  rw [decodeSymbol, h]
  rfl

/-- The nine bits of a data byte, kind bit 0. -/
theorem decodeSymbol_byte (b : Byte) : decodeSymbol (b.setWidth 9) = .data b := by
  have kind : (b.setWidth 9).getLsbD 8 = false := by simp
  rw [decodeSymbol_data kind, BitVec.setWidth_setWidth_of_le _ (by omega), BitVec.setWidth_eq]

/-- Settles O29: the codes of the symbols, a waiting frame end taken first, and the receiver's table row by row. -/
theorem receiverFollowsTable : Obligations.ReceiverFollowsTable := by
  refine ⟨fun bits => ?_, fun s bits good hr hc waits => ?_, fun s bits hr hc hf => ?_⟩
  · intro code
    refine ⟨decodeSymbol_data, fun control => ?_⟩
    rw [decodeSymbol_control control]
    refine ⟨fun h => if_pos h, fun h => ?_, fun h => ?_, fun h1 h2 h4 => ?_⟩
    · rw [show bits.setWidth 8 = _ from h]
      rfl
    · rw [show bits.setWidth 8 = _ from h]
      rfl
    · rw [if_neg h1, if_neg h2, if_neg h4]
  · obtain ⟨released, -⟩ := takeFrameEnd_frameTaken hr
    obtain ⟨u, t, hu, hur, huc, hun, ht, hs⟩ :=
      frameEnd_first (c := .loopSymbol bits)
        (k := fun s => shift (receive (decodeSymbol bits) s).1 (receive (decodeSymbol bits) s).2) hr waits
        (exec_loopSymbol hr hc bits) (exec_loopSymbol released ((takeFrameEnd_maps s).clock.trans hc) bits)
    exact ⟨u, t, hu, hur, huc.trans hc, hun, ht, hs⟩
  · intro x f atEnd sends
    have row : ∀ {y r g ended placed}, receive x s = (.sym y, received s r g ended placed) → sends y r g ended placed :=
      fun h => exec_received hr hc hf h
    refine ⟨fun h => ⟨fun hx => row ?_, fun hx => row (receive_between_other h hf hx)⟩, fun h => ?_,
      fun h => ⟨fun hx len => row ?_, fun hx len => row ?_, fun hx => row (receive_abort_idle h hf hx),
        fun hx => row ?_, fun b hx known len => row ?_⟩⟩
    · rw [hx, receive_between_start h hf]
    · by_cases hx : x = .idle
      · rw [if_pos hx]
        exact row (hx ▸ receive_discard_idle h hf)
      · rw [if_neg hx]
        exact row (receive_discard_other h hf hx)
    · rw [hx, receive_frameEnd_atEnd h len]
    · rw [hx, receive_frameEnd_elsewhere h hf len]
    · rw [hx, receive_inFrame_start h hf]
    · rw [hx, receive_data_beyond h hf b known len]

end Sys2Proof.Machine
end

section
/-! PROOFS. The data bytes of a frame: what is captured of each, and what it is forwarded as (R151, R153, R154, R157,
R159, R162, R164). -/

namespace Sys2Proof.Machine

open Sys2Proof.Safety

/-! ### A data byte within the frame length -/

/-- The byte is taken with `item` forwarded for it and the capture as state c has it, and is then counted and, unless it
is a check byte, shifted through the check register (R153). -/
structure TakesByte (s : State) (b : Byte) (item : TxItem) (c t : State) : Prop where
  row : exec (.loopSymbol (b.setWidth 9)) s = .next t
  item : t.loop.tx.second = item
  frame : t.loop.frame =
    { c.loop.frame with
      count := s.loop.frame.count + 1
      crc :=
        if s.loop.frame.count < 3 ∨ s.loop.frame.count < 34 + 2 * c.loop.frame.slots.toNat then
          crcByte c.loop.frame.crc b
        else c.loop.frame.crc }
  placed : t.loop.replyPlaced = c.loop.replyPlaced
  good : t.loop.tx.good = c.loop.tx.good

/-- The data byte that comes next lies within a frame under way at a part that takes it. -/
structure AwaitsByte (s : State) : Prop where
  released : s.inReset = false
  clock : s.loop.clock = true
  taken : s.loop.frameEnd = none
  inFrame : s.loop.receiver = .inFrame
  within : s.loop.frame.count < 3 ∨ s.loop.frame.count < 36 + 2 * s.loop.frame.slots.toNat

theorem countByte_frame (n : Nat) (b : Byte) (s : State) :
    (countByte n b s).loop.frame =
      { s.loop.frame with
        count := n + 1
        crc :=
          if n < 3 ∨ n < 34 + 2 * s.loop.frame.slots.toNat then crcByte s.loop.frame.crc b else s.loop.frame.crc } := by
  simp only [countByte, Bool.or_eq_true, decide_eq_true_eq]

theorem AwaitsByte.takes {s : State} (h : AwaitsByte s) (b : Byte) {c : State} {item : TxItem}
    (captured : captureByte s.loop.frame.count b s = c) (forwarded : forwardItem s.loop.frame.count b c = item) :
    ∃ t, TakesByte s b item c t := by
  refine ⟨shift item (countByte s.loop.frame.count b c), ?_, rfl, countByte_frame s.loop.frame.count b c, rfl, rfl⟩
  rw [exec_symbol h.released h.clock h.taken, decodeSymbol_byte, receive_data_within h.inFrame b h.within, frameByte,
    captured, forwarded]

/-! ### What is captured, by the place of the byte (R151, R153, R157, R159, R162, R164) -/

section Capture

variable (b : Byte) (s : State)

theorem captureByte_flags :
    captureByte 0 b s = { s with loop := { s.loop with frame := { s.loop.frame with flags := b } } } := rfl

theorem captureByte_hop :
    captureByte 1 b s = { s with loop := { s.loop with frame := { s.loop.frame with hop := b } } } := rfl

theorem captureByte_slotCount :
    captureByte 2 b s = { s with loop := { s.loop with frame := { s.loop.frame with slots := b } } } := rfl

theorem captureByte_reply : captureByte 3 b s = placeReply b s := rfl

theorem captureByte_replyRest {n : Nat} (h : 4 ≤ n ∧ n < 19) : captureByte n b s = s := by
  unfold captureByte
  dsimp only
  rw [if_neg (by omega), if_neg (by omega), if_neg (by omega), if_neg (by omega), if_pos (by omega)]

theorem captureByte_slots {n : Nat} (h : 19 ≤ n ∧ n < 19 + 2 * s.loop.frame.slots.toNat) :
    captureByte n b s =
      if n % 2 = 1 then captureRequest ((n - 19) / 2) b (if n = 19 then fixMap s else s)
      else if n = 19 then fixMap s else s := by
  unfold captureByte
  dsimp only
  rw [if_neg (by omega), if_neg (by omega), if_neg (by omega), if_neg (by omega), if_neg (by omega), if_pos h.2]

/-- The request byte of slot k; the map is fixed with that of slot 0. -/
theorem captureByte_request {k : Nat} (h : k < s.loop.frame.slots.toNat) :
    captureByte (19 + 2 * k) b s = captureRequest k b (if k = 0 then fixMap s else s) := by
  have slot : (19 + 2 * k - 19) / 2 = k := by omega
  rw [captureByte_slots b s (by omega), if_pos (by omega), slot]
  exact congrArg _ (if_congr (by omega) rfl rfl)

/-- The status byte of slot k. -/
theorem captureByte_status {k : Nat} (h : k < s.loop.frame.slots.toNat) : captureByte (20 + 2 * k) b s = s := by
  rw [captureByte_slots b s (by omega), if_neg (by omega), if_neg (by omega)]

theorem captureByte_openCell : captureByte (19 + 2 * s.loop.frame.slots.toNat) b s = openCell b s := by
  unfold captureByte
  dsimp only
  rw [if_neg (by omega), if_neg (by omega), if_neg (by omega), if_neg (by omega), if_neg (by omega), if_neg (by omega),
    if_pos rfl]

theorem captureByte_growCell {n : Nat}
    (h : 19 + 2 * s.loop.frame.slots.toNat < n ∧ n < 34 + 2 * s.loop.frame.slots.toNat) :
    captureByte n b s = growCell b s := by
  unfold captureByte
  dsimp only
  rw [if_neg (by omega), if_neg (by omega), if_neg (by omega), if_neg (by omega), if_neg (by omega), if_neg (by omega),
    if_neg (by omega), if_pos (by omega)]

theorem captureByte_checkHigh :
    captureByte (34 + 2 * s.loop.frame.slots.toNat) b s =
      { s with loop := { s.loop with frame := { s.loop.frame with checkHigh := b } } } := by
  unfold captureByte
  dsimp only
  rw [if_neg (by omega), if_neg (by omega), if_neg (by omega), if_neg (by omega), if_neg (by omega), if_neg (by omega),
    if_neg (by omega), if_neg (by omega), if_pos (by omega)]

theorem captureByte_checkLow :
    captureByte (35 + 2 * s.loop.frame.slots.toNat) b s =
      { s with
        loop :=
          { s.loop with
            tx := { s.loop.tx with good := decide (s.loop.frame.checkHigh ++ b = s.loop.frame.crc) } } } := by
  unfold captureByte
  dsimp only
  rw [if_neg (by omega), if_neg (by omega), if_neg (by omega), if_neg (by omega), if_neg (by omega), if_neg (by omega),
    if_neg (by omega), if_neg (by omega), if_neg (by omega)]

/-- The request byte joins the requests of the frame with the bay that owns the slot (R159). -/
theorem captureRequest_frame (slot : Nat) :
    (captureRequest slot b s).loop.frame =
      { s.loop.frame with
        requests :=
          s.loop.frame.requests ++
            (match ownerOf s.loop.frame.map slot with
            | some bay => [(bay, b)]
            | none => []) } := by
  unfold captureRequest
  cases ownerOf s.loop.frame.map slot with
  | some bay => rfl
  | none => simp only [List.append_nil]

/-- An empty reply cell is filled at a placed part that holds a reply (R164). -/
theorem placeReply_empty {p : Fin 8} {r : Reply} (hp : s.loop.position = some p) (hr : s.loop.reply = some r) :
    placeReply 14#8 s =
      { s with
        loop := { s.loop with replyPlaced := true, frame := { s.loop.frame with placing := replyBytes p r } } } := by
  rw [placeReply, hp, hr]
  exact if_pos rfl

theorem placeReply_otherwise (h : b = 14#8 → s.loop.position = none ∨ s.loop.reply = none) : placeReply b s = s := by
  unfold placeReply
  split
  · next p r hp hr =>
    refine if_neg fun empty => ?_
    rcases h empty with h | h
    · cases hp.symm.trans h
    · cases hr.symm.trans h
  · rfl

/-- A request cell for the part or for all parts is captured (R162). -/
theorem openCell_frame :
    (openCell b s).loop.frame =
      { s.loop.frame with
        cell :=
          if ∃ p : Fin 8, s.loop.position = some p ∧ (b.toNat = p.val ∨ b = 15#8) then some [b]
          else s.loop.frame.cell } := by
  unfold openCell
  cases s.loop.position with
  | none => simp
  | some p =>
    by_cases named : b.toNat = p.val ∨ b = 15#8
    · simp [named]
    · simp [named]

end Capture

/-! ### What is forwarded, by the place of the byte (R153, R154, R159, R164) -/

section Forward

variable (b : Byte) (s : State)

theorem forwardItem_hop : forwardItem 1 b s = .sym (.data (if b = 255#8 then 255#8 else b + 1#8)) := by
  show TxItem.sym (.data (if b = 255#8 then b else b + 1#8)) = _
  split
  · next h => rw [h]
  · rfl

theorem forwardItem_reply {n : Nat} (h : 3 ≤ n ∧ n < 19) :
    forwardItem n b s = .sym (.data (s.loop.frame.placing.getD (n - 3) b)) := by
  unfold forwardItem
  dsimp only
  rw [if_neg (by omega), if_neg (by omega), if_pos h.2]

/-- A request byte is forwarded as received. -/
theorem forwardItem_request {k : Nat} (h : k < s.loop.frame.slots.toNat) :
    forwardItem (19 + 2 * k) b s = .sym (.data b) := by
  unfold forwardItem
  dsimp only
  rw [if_neg (by omega), if_neg (by omega), if_neg (by omega), if_pos (by omega), if_neg (by omega)]

/-- The status byte of a slot that a local bay owns is replaced by that bay's. -/
theorem forwardItem_status {k : Nat} (h : k < s.loop.frame.slots.toNat) :
    forwardItem (20 + 2 * k) b s =
      match ownerOf s.loop.frame.map k with
      | some bay => .status bay
      | none => .sym (.data b) := by
  have slot : (20 + 2 * k - 20) / 2 = k := by omega
  unfold forwardItem
  dsimp only
  rw [if_neg (by omega), if_neg (by omega), if_neg (by omega), if_pos (by omega), if_pos (by omega), slot] <;>
    rfl

theorem forwardItem_cell {n : Nat}
    (h : 19 + 2 * s.loop.frame.slots.toNat ≤ n ∧ n < 34 + 2 * s.loop.frame.slots.toNat) :
    forwardItem n b s = .sym (.data b) := by
  unfold forwardItem
  dsimp only
  rw [if_neg (by omega), if_neg (by omega), if_neg (by omega), if_neg (by omega), if_pos (by omega)]

theorem forwardItem_checkHigh : forwardItem (34 + 2 * s.loop.frame.slots.toNat) b s = .checkHigh := by
  unfold forwardItem
  dsimp only
  rw [if_neg (by omega), if_neg (by omega), if_neg (by omega), if_neg (by omega), if_neg (by omega), if_pos (by omega)]

theorem forwardItem_checkLow : forwardItem (35 + 2 * s.loop.frame.slots.toNat) b s = .checkLow := by
  unfold forwardItem
  dsimp only
  rw [if_neg (by omega), if_neg (by omega), if_neg (by omega), if_neg (by omega), if_neg (by omega), if_neg (by omega)]

/-- Only the two check bytes are forwarded as check bytes. -/
theorem forwardItem_unchecked {n : Nat} (h : n < 3 ∨ n < 34 + 2 * s.loop.frame.slots.toNat) :
    forwardItem n b s ≠ .checkHigh ∧ forwardItem n b s ≠ .checkLow := by
  unfold forwardItem
  dsimp only
  split
  · simp
  split
  · simp
  split
  · simp
  split
  · split
    · split <;> simp
    · simp
  · rw [if_pos (by omega)]
    simp

end Forward

end Sys2Proof.Machine
end

section
/-! PROOFS. The bytes of a frame as the statements give them: the hop count, the slots, the cells, and the checks (R148,
R151, R153, R154, R157, R159, R162, R164). -/

namespace Sys2Proof.Machine

open Sys2Proof.Safety

/-! ### The first three bytes (R151, R154) -/

/-- Settles O30. -/
theorem hopCountRewritten : Obligations.HopCountRewritten := by
  intro s b hr hc hf hin f sends
  have row : ∀ {n y frame}, f.count = n → n < 3 →
      captureByte n b s = { s with loop := { s.loop with frame := frame } } →
      forwardItem n b { s with loop := { s.loop with frame := frame } } = .sym (.data y) → frame.crc = f.crc →
      sends y frame := by
    intro n y frame hn len captured forwarded crc
    have counted : s.loop.frame.count = n := hn
    obtain ⟨t, ht⟩ := AwaitsByte.takes ⟨hr, hc, hf, hin, .inl (by omega)⟩ b (counted ▸ captured) (counted ▸ forwarded)
    refine ⟨t, ht.row, ht.item, ?_⟩
    rw [ht.frame, if_pos (.inl (by omega)), ← crc]
  exact ⟨fun first => row first (by omega) (captureByte_flags b s) rfl rfl,
    fun second => row second (by omega) (captureByte_hop b s) (forwardItem_hop b _) rfl,
    fun third => row third (by omega) (captureByte_slotCount b s) rfl rfl⟩

/-! ### The reply cell, the slots and the request cell (R157, R159, R162, R164) -/

/-- Settles O31: each byte by its place in the frame. -/
theorem slotAndCellBytesTaken : Obligations.SlotAndCellBytesTaken := by
  intro s x hr hc hf hin f captured gives
  have row : ∀ {n item c holds}, f.count = n → n < 36 + 2 * f.slots.toNat → captureByte n x s = c →
      forwardItem n x c = item → (∀ t, TakesByte s x item c t → holds t) → gives item holds := by
    intro n item c holds hn len captured forwarded held
    have counted : s.loop.frame.count = n := hn
    have within : s.loop.frame.count < 36 + 2 * s.loop.frame.slots.toNat := counted ▸ len
    obtain ⟨t, ht⟩ := AwaitsByte.takes ⟨hr, hc, hf, hin, .inr within⟩ x (counted ▸ captured) (counted ▸ forwarded)
    exact ⟨t, ht.row, ht.item, held t ht⟩
  refine ⟨fun slotted hn => ?_, fun k hk later hn => ?_, fun k hk hn => ?_,
    fun p r hn hp hreply => ⟨fun empty => ?_, fun full => ?_⟩, fun hn without => ?_, fun i hi hn => ?_, fun hn => ?_, fun i hi hn => ?_⟩
  · intro map
    have frame := captureRequest_frame x (fixMap s) 0
    refine row hn (by omega) (captureByte_request x s slotted) (forwardItem_request x _ (k := 0) ?_) fun t ht => ?_
    · rw [if_pos rfl, frame]
      exact slotted
    · rw [ht.frame, if_pos rfl, frame]
      exact ⟨rfl, rfl⟩
  · have frame := captureRequest_frame x s k
    have fixed : (if k = 0 then fixMap s else s) = s := if_neg (by omega)
    refine row hn (by omega) (captureByte_request x s hk) (forwardItem_request x _ ?_) fun t ht => ?_
    · rw [fixed, frame]
      exact hk
    · rw [ht.frame, fixed, frame]
      exact ⟨rfl, rfl⟩
  · exact row hn (by omega) (captureByte_status x s hk) (forwardItem_status x s hk) fun t ht => by rw [ht.frame]
  · subst empty
    have captured := (captureByte_reply 14#8 s).trans (placeReply_empty s hp hreply)
    refine row hn (by omega) captured (forwardItem_reply _ _ (by omega)) fun t ht => ⟨ht.placed, ?_⟩
    rw [ht.frame]
    rfl
  · have captured := (captureByte_reply x s).trans (placeReply_otherwise x s fun empty => absurd empty full)
    exact row hn (by omega) captured (forwardItem_reply _ _ (by omega)) fun t ht => ⟨ht.placed, by rw [ht.frame]⟩
  · have captured := (captureByte_reply x s).trans (placeReply_otherwise x s fun _ => without)
    exact row hn (by omega) captured (forwardItem_reply _ _ (by omega)) fun t ht => ⟨ht.placed, by rw [ht.frame]⟩
  · have place : 4 + i - 3 = i + 1 := by omega
    exact row hn (by omega) (captureByte_replyRest x s (by omega)) (place ▸ forwardItem_reply x s (by omega))
      fun _ _ => trivial
  · have frame := openCell_frame x s
    refine row hn (by omega) (captureByte_openCell x s) (forwardItem_cell _ _ ?_) fun t ht => ?_
    · rw [frame]
      show 19 + 2 * f.slots.toNat ≤ 19 + 2 * f.slots.toNat ∧ 19 + 2 * f.slots.toNat < 34 + 2 * f.slots.toNat
      omega
    · rw [ht.frame, frame]
  · refine row hn (by omega) (captureByte_growCell x s ?_) (forwardItem_cell _ _ ?_) fun t ht => ?_
    · show 19 + 2 * f.slots.toNat < _ ∧ _ < 34 + 2 * f.slots.toNat
      omega
    · show 19 + 2 * f.slots.toNat ≤ _ ∧ _ < 34 + 2 * f.slots.toNat
      omega
    · rw [ht.frame]
      rfl

/-! ### The status byte (R159, 10 section 10.1) -/

/-- The state in bits 7 to 5 and five flags below it, as a sum. -/
theorem statusBits_sum (x : BayState) (attention held valid hold reset : Bool) :
    ((x.code <<< 5) ||| bitIf attention 4 ||| bitIf held 3 ||| bitIf valid 2 ||| bitIf hold 1 ||| bitIf reset 0) =
      x.code * 32#8 + (if attention then 16#8 else 0#8) + (if held then 8#8 else 0#8) + (if valid then 4#8 else 0#8) +
        (if hold then 2#8 else 0#8) + (if reset then 1#8 else 0#8) := by
  revert attention held valid hold reset
  cases x <;> decide

theorem statusByte_sum (s : State) (b : BayIx) :
    s.statusByte b =
      (s.bay b).state.code * 32#8 + (if s.reportedAttention b then 16#8 else 0#8) +
        (if (s.bay b).state = .queued ∧ (s.zone (s.bayCfg b).zone).hold = true then 8#8 else 0#8) +
        (if s.tempValid b then 4#8 else 0#8) + (if (s.bayLights b).hold ≠ none then 2#8 else 0#8) +
        (if (s.bay b).state = .surge ∨ ((s.bay b).state = .run ∧ (s.bay b).resetHold ≠ none) then 1#8 else 0#8) := by
  rw [State.statusByte, statusBits_sum]
  simp only [s.reportsHeld_iff b, (s.bay b).resetAsserted_iff, Option.isSome_iff_ne_none]

/-! ### The checks (R153) -/

/-- The oldest item is sent, and what is sent is shifted through the check register over the bytes sent. -/
theorem Receives.shift {s u : State} (h : Receives s u) (item : TxItem) :
    (shift item u).loop.sent = Machine.itemSymbol u s.loop.tx.first ∧
      (shift item u).loop.tx.crc = sentCrc s.loop.tx.crc s.loop.tx.first (Machine.itemSymbol u s.loop.tx.first) ∧
      (shift item u).loop.tx.first = s.loop.tx.second := by
  have first : u.loop.tx.first = s.loop.tx.first := by rw [h]
  have second : u.loop.tx.second = s.loop.tx.second := by rw [h]
  have crc : u.loop.tx.crc = s.loop.tx.crc := by rw [h]
  rw [← first, ← second, ← crc]
  exact ⟨rfl, rfl, rfl⟩

/-- t is s after a data byte between the slot count and the check: the reply being placed, the map in force and what is
captured of slots and request cell are all that can differ. -/
def Captures (s t : State) : Prop :=
  t =
    { s with
      loop :=
        { s.loop with
          replyPlaced := t.loop.replyPlaced
          frame :=
            { s.loop.frame with
              placing := t.loop.frame.placing, map := t.loop.frame.map, requests := t.loop.frame.requests
              cell := t.loop.frame.cell } } }

theorem Captures.trans {s t u : State} (h : Captures s t) (k : Captures t u) : Captures s u := by
  unfold Captures at *
  rw [k, h]

theorem captureByte_captures {n : Nat} (b : Byte) {s : State} (h : 3 ≤ n ∧ n < 34 + 2 * s.loop.frame.slots.toNat) :
    Captures s (captureByte n b s) := by
  have fixed : Captures s (if n = 19 then fixMap s else s) := by split <;> rfl
  have request : ∀ slot t, Captures t (captureRequest slot b t) := fun slot t => by
    unfold captureRequest
    split <;> rfl
  rcases (by omega : n = 3 ∨ (4 ≤ n ∧ n < 19) ∨ (19 ≤ n ∧ n < 19 + 2 * s.loop.frame.slots.toNat) ∨
    n = 19 + 2 * s.loop.frame.slots.toNat ∨ 19 + 2 * s.loop.frame.slots.toNat < n) with hn | hn | hn | hn | hn
  · rw [hn, captureByte_reply, placeReply]
    split
    · split <;> rfl
    · rfl
  · rw [captureByte_replyRest b s hn]
    rfl
  · rw [captureByte_slots b s hn]
    split
    · exact fixed.trans (request _ _)
    · exact fixed
  · rw [hn, captureByte_openCell, openCell]
    split
    · split <;> rfl
    · rfl
  · rw [captureByte_growCell b s ⟨hn, h.2⟩]
    rfl

/-- No data byte before the check moves the check register itself or the judgement of the check before it. -/
theorem captureByte_unchecked {n : Nat} (b : Byte) {s : State} (h : n < 3 ∨ n < 34 + 2 * s.loop.frame.slots.toNat) :
    (captureByte n b s).loop.frame.crc = s.loop.frame.crc ∧ (captureByte n b s).loop.tx.good = s.loop.tx.good ∧
      (n < 3 ∨ n < 34 + 2 * (captureByte n b s).loop.frame.slots.toNat) := by
  by_cases early : n < 3
  · rcases (by omega : n = 0 ∨ n = 1 ∨ n = 2) with rfl | rfl | rfl
    · exact ⟨rfl, rfl, .inl early⟩
    · exact ⟨rfl, rfl, .inl early⟩
    · exact ⟨rfl, rfl, .inl early⟩
  · have captured := captureByte_captures b (n := n) (s := s) (by omega)
    have slots : (captureByte n b s).loop.frame.slots = s.loop.frame.slots := by rw [captured]
    exact ⟨by rw [captured], by rw [captured], by rwa [slots]⟩

theorem complement_ne (c : BitVec 16) : ~~~c ≠ c := fun same => by
  have bit := congrArg (·.getLsbD 0) same
  simp at bit

/-- Settles O32: what is sent of the oldest item, and what a data byte does to the checks by its place in the frame. -/
theorem checkIsOfBytesSent : Obligations.CheckIsOfBytesSent := by
  unfold Obligations.CheckIsOfBytesSent
  intro through status
  have shifted : ∀ c x, through c x = crcByte c x := fun c x => (crcByte_eq_fold c x).symm
  have sum : ∀ s b, status s b = s.statusByte b := fun s b => by
    rw [statusByte_sum, State.tempValid]
    simp only [status]
    cases s.temp b <;> cases (s.bay b).state <;> rfl
  refine ⟨rfl, fun s bits hr hc hf => ?_, fun s x hr hc hf hin => ?_, complement_ne⟩
  · intro tx
    have kept := receive_receives (decodeSymbol bits) s
    refine ⟨_, exec_symbol hr hc hf bits, ?_⟩
    generalize (receive (decodeSymbol bits) s).1 = item, (receive (decodeSymbol bits) s).2 = u at kept ⊢
    obtain ⟨sent, crc, first⟩ := kept.shift item
    have symbol := kept.itemSymbol_eq s.loop.tx.first
    refine ⟨?_, ?_, first⟩
    · intro check
      rw [sent, symbol]
      simp only [sum] <;> rfl
    · rw [crc, sent]
      simp only [shifted]
      generalize itemSymbol u s.loop.tx.first = y
      show sentCrc tx.crc tx.first y = _
      cases tx.first <;> cases y <;> rfl
  · dsimp only
    refine ⟨fun before => ?_, fun known counted => ?_, fun known second => ?_⟩
    · obtain ⟨crc, good, within⟩ := captureByte_unchecked x before
      have unchecked := forwardItem_unchecked x (captureByte s.loop.frame.count x s) within
      obtain ⟨t, ht⟩ := AwaitsByte.takes ⟨hr, hc, hf, hin, by omega⟩ x rfl rfl
      refine ⟨t, ht.row, ?_, by rw [ht.item]; exact unchecked.1, by rw [ht.item]; exact unchecked.2, ht.good.trans good⟩
      rw [ht.frame, if_pos within, crc, shifted]
    · obtain ⟨t, ht⟩ := AwaitsByte.takes ⟨hr, hc, hf, hin, by omega⟩ x (counted ▸ captureByte_checkHigh x s)
        (counted ▸ forwardItem_checkHigh x _)
      refine ⟨t, ht.row, ht.item, by rw [ht.frame], ?_, ht.good⟩
      rw [ht.frame, if_neg]
      show ¬(_ ∨ _ < 34 + 2 * s.loop.frame.slots.toNat)
      omega
    · have counted : s.loop.frame.count = 35 + 2 * s.loop.frame.slots.toNat := by omega
      obtain ⟨t, ht⟩ := AwaitsByte.takes ⟨hr, hc, hf, hin, by omega⟩ x (counted ▸ captureByte_checkLow x s)
        (counted ▸ forwardItem_checkLow x _)
      refine ⟨t, ht.row, ht.item, ?_⟩
      rw [ht.good]
      exact decide_eq_true_iff

end Sys2Proof.Machine
end

section
/-! PROOFS. The messages of the table window, PART RESET of LOOP scope, and the request cells of 10, section 10.3 (R110, R168 to R170,
R176 to R178, R180, R182, R184). -/

namespace Sys2Proof.Machine

open Sys2Proof.Safety

/-! ### TABLE WINDOW (R176) -/

/-- A table that the part does not have has no entry (R175). -/
theorem entryCount_beyond {n : Nat} (h : 10 < n) : entryCount n = 0 :=
  match n, h with
  | _ + 11, _ => rfl

section TableWindow

variable {table start stop : Byte}

theorem msgTableWindow_opens
    (h : start.toNat < entryCount table.toNat ∧ stop.toNat < entryCount table.toNat ∧ start.toNat ≤ stop.toNat) (s : State) :
    msgTableWindow table start stop s =
      ⟨{ s with window := some ⟨table.toNat, start.toNat, stop.toNat, start.toNat⟩ }, .ok, [table, start, stop, start],
        false⟩ := by
  obtain ⟨hstart, hstop, horder⟩ := h
  have known : ¬ 10 < table.toNat := fun beyond => by
    rw [entryCount_beyond beyond] at hstart
    exact Nat.not_lt_zero _ hstart
  rw [msgTableWindow, if_neg (by omega)]
  simp only [windowBytes, b8, BitVec.ofNat_toNat, BitVec.setWidth_eq]

theorem msgTableWindow_refuses
    (h : ¬(start.toNat < entryCount table.toNat ∧ stop.toNat < entryCount table.toNat ∧ start.toNat ≤ stop.toNat))
    (s : State) : msgTableWindow table start stop s = ⟨s, .badArgument, windowBytes s, false⟩ :=
  if_pos (by omega)

end TableWindow

/-- Settles O43: the table, the start and the end exist in that order, or the message refuses them. -/
theorem tableWindowCompletes : Obligations.TableWindowCompletes := by
  intro s dst tag table start stop ht count
  have counted : count = entryCount table.toNat := rfl
  clear_value count
  subst counted
  exact ⟨fun inside => message_answered ht (msgTableWindow_opens inside s) tag 11#8 false,
    fun outside => message_answered ht (msgTableWindow_refuses outside s) tag 11#8 false⟩

/-! ### TABLE PUT and TABLE GET at and off the pointer (R177, R178, R180) -/

theorem windowBytes_some {s : State} {w : Window} (h : s.window = some w) :
    windowBytes s = [b8 w.table, b8 w.start, b8 w.stop, b8 w.pointer] := by
  rw [windowBytes, h]

section NoWindow

variable {s : State} (h : s.window = none) (index : Byte)

include h

theorem msgTablePut_noWindow (entry : List Byte) : msgTablePut index entry s = refuse .noWindow s := by
  rw [msgTablePut, h]

theorem msgTableGet_noWindow : msgTableGet index s = refuse .noWindow s := by
  rw [msgTableGet, h]

end NoWindow

section OffPointer

variable {s : State} {w : Window} {index : Byte} (hw : s.window = some w) (hi : index.toNat ≠ w.pointer)

include hw hi

theorem msgTablePut_offPointer (entry : List Byte) :
    msgTablePut index entry s =
      ⟨s, .pointerMismatch, [b8 w.table, b8 w.start, b8 w.stop, b8 w.pointer], false⟩ := by
  rw [msgTablePut, hw, ← windowBytes_some hw]
  exact if_pos hi

theorem msgTableGet_offPointer :
    msgTableGet index s = ⟨s, .pointerMismatch, [b8 w.table, b8 w.start, b8 w.stop, b8 w.pointer], false⟩ := by
  rw [msgTableGet, hw, ← windowBytes_some hw]
  exact if_pos hi

end OffPointer

theorem msgTableGet_atPointer {s : State} {w : Window} {index : Byte} (hw : s.window = some w)
    (hi : index.toNat = w.pointer) :
    msgTableGet index s =
      ⟨{ s with window := some w.advance }, .ok, [index, b8 w.advance.pointer] ++ getEntry w.table w.pointer s, false⟩ := by
  rw [msgTableGet, hw]
  exact if_neg (not_not.mpr hi)

/-- The active curves take no write (R110). -/
theorem putEntry_activeCurves (i : Nat) (entry : List Byte) (s : State) : putEntry 10 i entry s = .refuse .readOnly := rfl

/-- Settles O44: without a window, off the pointer, and at it. -/
theorem tableAccessFollowsPointer : Obligations.TableAccessFollowsPointer := by
  intro s dst tag index entry ht
  refine ⟨fun absent => ⟨?_, ?_⟩, fun w hw => ⟨fun off => ⟨?_, ?_⟩, fun pointed => ⟨?_, fun curves => ?_⟩⟩⟩
  · exact message_answered ht (msgTablePut_noWindow absent index entry) tag 12#8 false
  · exact message_answered ht (msgTableGet_noWindow absent index) tag 13#8 false
  · exact message_answered ht (msgTablePut_offPointer hw off entry) tag 12#8 false
  · exact message_answered ht (msgTableGet_offPointer hw off) tag 13#8 false
  · exact message_answered ht (msgTableGet_atPointer hw pointed) tag 13#8 false
  · exact tablePut_refuses ht hw pointed (by rw [curves, putEntry_activeCurves]) tag

/-! ### PART RESET of LOOP scope (R184) -/

theorem resetLoop_mapResolved (s : State) : MapResolved (resetLoop s) := resolveMap_mapResolved _

/-- Settles O49: the message answers `resetLoop`, to the part and to all parts. -/
theorem partResetLoopCompletes : Obligations.PartResetLoopCompletes := by
  intro s dst tag hr placed
  refine ⟨resetLoop s, rfl, rfl, resetLoop_mapResolved s, fun toAll => ?_, fun ht => ?_⟩
  · exact (message_to_part_or_all (run := msgResetLoop) hr placed (.inl toAll) rfl tag 20#8).trans (by rw [if_pos toAll])
  · exact message_answered (run := msgResetLoop) ht rfl tag 20#8 true

/-! ### The request of a cell (10, section 10.3) -/

/-- The two bytes at a place of the arguments, the first the more significant. -/
theorem valueAt_eq (args : List Byte) (i : Nat) : valueAt args i = args.getD i 0#8 ++ args.getD (i + 1) 0#8 := by
  refine BitVec.eq_of_toNat_eq ?_
  have low := (args.getD (i + 1) 0#8).isLt
  rw [valueAt, BitVec.toNat_ofNat, Nat.mod_eq_of_lt (wordAt_lt args i), BitVec.toNat_append,
    ← Nat.shiftLeft_add_eq_or_of_lt low, Nat.shiftLeft_eq]
  rfl

theorem msgIndicatorHold_release (start stop : Byte) : msgIndicatorHold start stop 255#8 = msgHold start stop none :=
  funext fun _ => if_pos rfl

theorem msgBayPower_beyond {action : Byte} (h : 5 < action.toNat) (bay : Byte) :
    msgBayPower bay action = refuse .badArgument := by
  obtain ⟨n, hn⟩ := Nat.exists_eq_add_of_lt h
  funext s
  rw [msgBayPower, show action.toNat = n + 6 by omega]
  rfl

theorem partReset_beyond {scope : Byte} (h : 2 < scope.toNat) : partReset scope = (false, refuse .badArgument) := by
  obtain ⟨n, hn⟩ := Nat.exists_eq_add_of_lt h
  rw [partReset, show scope.toNat = n + 3 by omega]
  rfl

/-- A kind byte that names no kind (R169). -/
theorem requestOf_unknown {kind : Byte} (h : kind = 0#8 ∨ 20 < kind.toNat) (args : List Byte) :
    requestOf kind args = (false, refuse .badKind) := by
  rcases h with rfl | h
  · rfl
  · obtain ⟨n, hn⟩ := Nat.exists_eq_add_of_lt h
    rw [requestOf, show kind.toNat = n + 21 by omega]
    rfl

/-- A cell in its parts: destination, kind, tag and arguments (10, section 10.1). -/
theorem handCell_request {kind : Byte} {args : List Byte} {acts : Bool} {run : State → Answer}
    (request : requestOf kind args = (acts, run)) (d tag : Byte) (s : State) :
    handCell (d :: kind :: tag :: args) s = deliver d tag kind acts run s := by
  have cell : handCell (d :: kind :: tag :: args) s =
      deliver d tag kind (requestOf kind args).1 (requestOf kind args).2 s := rfl
  rw [cell, request]

/-- A cell does what the row does that hands over the request of its kind and arguments (R168; log 12). -/
theorem exec_handCell {c : Instr} {s : State} {d tag kind : Byte} {args : List Byte} {acts : Bool} {run : State → Answer}
    (hr : s.inReset = false) (request : requestOf kind args = (acts, run))
    (row : exec c s = live s (deliver d tag kind acts run)) :
    exec c s = .next (handCell (d :: kind :: tag :: args) s) := by
  rw [row, live_next hr, handCell_request request]

/-- A refused request is answered to its sender alone, and ignored when broadcast (R169, R170). -/
theorem handCell_refused {d tag kind : Byte} {args : List Byte} {r : Result} (request : requestOf kind args = (false, refuse r))
    (s : State) :
    (Takes s d → handCell (d :: kind :: tag :: args) s = answered s kind tag r []) ∧
      (d = 15#8 → handCell (d :: kind :: tag :: args) s = s) := by
  rw [handCell_request request]
  refine ⟨fun ht => deliver_takes ht .., fun toAll => ?_⟩
  subst toAll
  by_cases placed : s.loop.position = none
  · exact deliver_unplaced placed ..
  · exact deliver_broadcast (Option.isSome_iff_ne_none.mpr placed) ..

/-- Settles O35: the cell of a row requests what the row hands over, and a number past the named ones requests a refusal. -/
theorem cellRunsItsMessage : Obligations.CellRunsItsMessage := by
  intro s d tag a0 a1 a2 a3 a4 a5 a6 a7 a8 a9 a10 a11 hr cell does
  have hands : ∀ {kind : Byte} {c : Instr} {acts : Bool} {run : State → Answer},
      requestOf kind [a0, a1, a2, a3, a4, a5, a6, a7, a8, a9, a10, a11] = (acts, run) →
      exec c s = live s (deliver d tag kind acts run) → does kind c := fun request row => exec_handCell hr request row
  refine ⟨hands rfl rfl, hands rfl rfl, ?on, ?expedite, ?off, ?release, ?cycle, ?clear, hands rfl rfl, hands rfl rfl,
    hands rfl rfl, hands rfl rfl, hands rfl rfl, ?holdRelease, hands rfl rfl, ?temperatures, hands rfl rfl, hands rfl rfl,
    hands rfl rfl, hands rfl rfl, hands rfl rfl, hands rfl rfl, hands rfl rfl, hands rfl rfl, hands rfl rfl, ?loop, ?tables,
    ?full, fun kind unknown => ?unknown, fun beyond => ?action, fun beyond => ?scope⟩
  case on | expedite | off | release | cycle | clear | loop | tables | full =>
    rintro rfl
    exact hands rfl rfl
  case holdRelease =>
    rintro rfl
    exact hands (congrArg (Prod.mk true) (msgIndicatorHold_release a0 a1)) rfl
  case temperatures =>
    refine hands (run := msgDriveTemperature a0 (a1 ++ a2) (a3 ++ a4) (a5 ++ a6)) ?_ rfl
    show (false, msgDriveTemperature a0 (valueAt _ 1) (valueAt _ 3) (valueAt _ 5)) = _
    simp only [valueAt_eq]
    rfl
  case unknown => exact handCell_refused (requestOf_unknown unknown _) s
  case action =>
    refine handCell_refused ?_ s
    exact congrArg (Prod.mk false) (msgBayPower_beyond beyond a0)
  case scope =>
    refine handCell_refused ?_ s
    exact partReset_beyond beyond

end Sys2Proof.Machine
end

section
/-! PROOFS. The held phase: what begins it, what it ignores, and the end of a trigger that does not release the part
(R187, R189; log 19, 28). -/

namespace Sys2Proof.Machine

open Sys2Proof.Safety

/-! ### What a held part ignores -/

/-- A held part takes no event of a line, no message and no event of its own: each row stands in a wrapper that passes
it over. -/
theorem exec_held {c : Instr} {s : State} (held : s.inReset = true) (needs : needsRelease c = true)
    (hc : c.wellFormed = true) : exec c s = .next s := by
  cases hb : bayLine c with
  | some n =>
    obtain ⟨k, hk⟩ := exec_of_bayLine hb
    rw [hk]
    exact onBay_held (b := ⟨n, bayLine_lt hb hc⟩) held k
  | none =>
    cases hd : destination c with
    | some d =>
      obtain ⟨tag, kind, acts, run, hr⟩ := exec_of_destination hd
      rw [hr]
      exact live_held held _
    | none =>
      match c, needs, hb, hd with
      | .tachPulse fan, _, _, _ => exact onFan_held (f := ⟨fan, of_decide_eq_true hc⟩) held countTach
      | .staggerBoundary, _, _, _ => exact live_held held _
      | .coolingUpdate, _, _, _ => exact live_held held _
      | .conversionEnd, _, _, _ => exact live_held held _
      | .loopTimerExpiry, _, _, _ => exact live_held held _
      | .goodFrameEnd, _, _, _ => exact live_held held _
      | .badCheckFrameEnd, _, _, _ => exact live_held held _

theorem exec_timebaseTick_held {s : State} (held : s.inReset = true) (pins : Pins) (l : LightsOrder) :
    exec (.timebaseTick pins l) s = .next { s with io := { s.io with pins := pins } } :=
  if_pos held

theorem exec_loopSymbol_held {s : State} (held : s.inReset = true) (clock : s.loop.clock = true) (bits : BitVec 9) :
    exec (.loopSymbol bits) s = .next { s with loop := { s.loop with sent := .idle } } := by
  show execLoopSymbol bits s = _
  rw [execLoopSymbol, clock, held]
  rfl

/-- Settles O3: the rows that need the release, then the tick, then a symbol of the running clock. -/
theorem heldPartTakesNothing : Obligations.HeldPartTakesNothing := fun _ held =>
  ⟨fun _ needs hc => exec_held held needs hc, exec_timebaseTick_held held,
    fun bits clock => exec_loopSymbol_held held clock bits⟩

/-! ### The triggers that hold the part -/

theorem inReset_of_powerOn {s : State} (h : s.rst.powerOn = true) : s.inReset = true := by
  rw [State.inReset, h, Bool.true_or]

theorem inReset_of_pin {s : State} (h : s.rst.pin = true) : s.inReset = true := by
  rw [State.inReset, h, Bool.or_true]

/-- The lines of a held part: its inputs as they were, its bay outputs off, its fan outputs high, IDLE to the loop. -/
theorem holdPart_lines (s : State) :
    (holdPart s).io.pins = s.io.pins ∧ (holdPart s).io.out = outputsOff (Vector.replicate 8 255) ∧
      (holdPart s).loop.sent = .idle ∧ (holdPart s).loop.receiver = .discard :=
  ⟨rfl, rfl, rfl, rfl⟩

/-! ### The end of a trigger that does not release the part -/

theorem exec_powerOnEnd_pinHolds {s : State} (hpin : s.rst.pin = true) :
    exec (.resetTriggerEnd .powerOn) s = .next { s with rst := { s.rst with powerOn := false } } := by
  have still : State.inReset { s with rst := { s.rst with powerOn := false } } = true := inReset_of_pin hpin
  exact (if_pos (inReset_of_pin hpin)).trans (if_pos still)

theorem exec_pinEnd_powerOnHolds {s : State} (hpow : s.rst.powerOn = true) :
    exec (.resetTriggerEnd .pin) s = .next { s with rst := { s.rst with pin := false } } := by
  have still : State.inReset { s with rst := { s.rst with pin := false } } = true := inReset_of_powerOn hpow
  exact (if_pos (inReset_of_powerOn hpow)).trans (if_pos still)

theorem exec_resetTriggerEnd_released {s : State} (free : s.inReset = false) (trigger : ResetTrigger) :
    exec (.resetTriggerEnd trigger) s = .next s :=
  if_neg (Bool.eq_false_iff.mp free)

/-- Settles O51: each trigger sets its own mark and holds the part, and its end goes by whether the other still holds. -/
theorem triggersHoldThePart : Obligations.TriggersHoldThePart := fun _ =>
  ⟨⟨_, rfl, rfl, inReset_of_powerOn rfl, holdPart_lines _⟩, ⟨_, rfl, rfl, inReset_of_pin rfl, holdPart_lines _⟩,
    exec_powerOnEnd_pinHolds, exec_pinEnd_powerOnHolds, fun trigger free => exec_resetTriggerEnd_released free trigger⟩

end Sys2Proof.Machine
end

section
/-! PROOFS. What one step does: the command at the front of the queue, or idling on an empty one (log 6). -/

namespace Sys2Proof.Machine

/-- The command at the front leaves the queue before it runs. -/
theorem step_of_pending_cons {c : Instr} {rest : List Instr} {s : State} (front : s.pending = c :: rest) :
    step s = exec c { s with pending := rest } := by
  rw [step, front]

theorem step_of_pending_nil {s : State} (empty : s.pending = []) : step s = .next s := by
  rw [step, empty]

/-- Settles O1: the two shapes of the queue. -/
theorem stepRunsFrontCommand : Obligations.StepRunsFrontCommand :=
  ⟨fun _ _ _ front => step_of_pending_cons front, fun _ empty => step_of_pending_nil empty⟩

end Sys2Proof.Machine
end
